-- ==== Sys2Proof/Word.lean ====
section
/-! DEFINITION. Word.lean: the byte, the 32-bit word and the fixed-length byte buffer (00_scope.md R9, R10). -/

namespace Sys2Proof

/-- A byte is 8 bits (R9). -/
abbrev Byte := BitVec 8

/-- The widest field of the block: 32 bits, unsigned (R9). -/
abbrev Word32 := BitVec 32

/-- A byte buffer of `n` bytes, read and written by offsets `0` to `n - 1` (R10, R60). -/
abbrev Buf (n : Nat) := Vector Byte n

end Sys2Proof
end

