-- ==== Sys2Proof/Machine/Flags.lean ====
section
/-! DEFINITION. Machine/Flags.lean: the one flag of the block's inputs. The core has no condition flags (10_state.md
R45); the flags byte of a CBW holds the data direction. -/

namespace Sys2Proof.Machine

/-- The direction bit, bit 7 of the flags byte: true is device to host, false is host to device. Bits 6 to 0 are not
read (30_encoding.md R92). -/
def dirIn (flags : Byte) : Bool := flags.getLsbD 7

end Sys2Proof.Machine
end

