-- ==== Sys2Proof/Machine/Bytes.lean ====
section
/-! DEFINITION. Machine/Bytes.lean: the byte packings of 00_scope.md R10 and byte access to a buffer, R11. -/

namespace Sys2Proof.Machine

/-- `bytesLE32(v)`: least significant byte first (R10). -/
def bytesLE32 (v : Word32) : Buf 4 :=
  #v[v.extractLsb' 0 8, v.extractLsb' 8 8, v.extractLsb' 16 8, v.extractLsb' 24 8]

/-- `bytesBE32(v)`: most significant byte first (R10). -/
def bytesBE32 (v : Word32) : Buf 4 :=
  #v[v.extractLsb' 24 8, v.extractLsb' 16 8, v.extractLsb' 8 8, v.extractLsb' 0 8]

/-- `bytesBE24(v mod 2^24)`: the low 24 bits, most significant byte first (R10, R98). -/
def bytesBE24 (v : Word32) : Buf 3 :=
  #v[v.extractLsb' 16 8, v.extractLsb' 8 8, v.extractLsb' 0 8]

/-- `le32([b0, b1, b2, b3])`: `b0` is the least significant byte (R10). -/
def le32 (b0 b1 b2 b3 : Byte) : Word32 := b3 ++ b2 ++ b1 ++ b0

/-- `be32([b0, b1, b2, b3])`, the inverse of `bytesBE32` (R10). -/
def be32 (b0 b1 b2 b3 : Byte) : Word32 := b0 ++ b1 ++ b2 ++ b3

/-- `be24([b0, b1, b2])`, the inverse of `bytesBE24` (R10). -/
def be24 (b0 b1 b2 : Byte) : BitVec 24 := b0 ++ b1 ++ b2

/-- `LE32(buf, off)` (R11, R62). -/
def readLE32 (buf : Buf n) (off : Nat) (h : off + 3 < n := by decide) : Word32 :=
  le32 buf[off] buf[off + 1] buf[off + 2] buf[off + 3]

/-- `MemRead(buf, off, 4)` (R11). -/
def read4 (buf : Buf n) (off : Nat) (h : off + 3 < n := by decide) : Buf 4 :=
  #v[buf[off], buf[off + 1], buf[off + 2], buf[off + 3]]

/-- `bytes` with the bytes of `v` in place of those at the offsets from `off` on; what lies past the end of `bytes` is
written nowhere. -/
def overwrite : List Byte → Nat → List Byte → List Byte
  | [], _, _ => []
  | b :: bs, 0, [] => b :: bs
  | _ :: bs, 0, v :: vs => v :: overwrite bs 0 vs
  | b :: bs, off + 1, v => b :: overwrite bs off v

theorem length_overwrite (bytes : List Byte) (off : Nat) (v : List Byte) :
    (overwrite bytes off v).length = bytes.length := by
  fun_induction overwrite bytes off v <;> simp_all

/-- `MemWrite(buf, off, |v|, v)` (R11). No rule generates an offset outside its space (R68). -/
def memWrite (buf : Buf n) (off : Nat) (v : List Byte) : Buf n :=
  ⟨(overwrite buf.toList off v).toArray, by simp [length_overwrite]⟩

end Sys2Proof.Machine
end

