-- ==== Sys2Proof/Config.lean ====
section
/-! DEFINITION. Config.lean: the implementation parameters of 00_scope.md R7 (read-only for the life of an
instance, 10_state.md R38) and the free values of 10_state.md R47. A parameter the spec gives a value or a default
stands at it; a parameter marked OPEN is an opaque constant without a body, and so is every free value. DESIGN CHOICE: R38
fixes the parameters for the life of an instance and leaves open whether two instances may have different ones; here
all instances have these (log entry 23). -/

namespace Sys2Proof.Config

/-- `CBW_LEN` (R7, R90). -/
def cbwLen : Nat := 31

/-- `CSW_LEN` (R7, R96). -/
def cswLen : Nat := 13

/-- `FC_LEN` (R7, R98). -/
def fcLen : Nat := 12

/-- `CBW_RX_MAX`, the limit of every `startReceive` (R7; 92_eei_decisions.md D9). -/
def cbwRxMax : Nat := 31

/-- `MAX_LUN` (R7, R100). -/
def maxLun : Byte := 0x00#8

/-- `MAGIC_A`, the CBW signature. PRESUMED: the spec's default (D1; log entry 1). -/
def magicA : Word32 := 0x43425355#32

/-- `MAGIC_B`, the CSW signature. PRESUMED: the spec's default (D2; log entry 1). -/
def magicB : Word32 := 0x53425355#32

/-- `OPC_INQUIRY`. PRESUMED: the spec's default (D3; log entry 1). -/
def opcInquiry : Byte := 0x12#8

/-- `OPC_RFC`. PRESUMED: the spec's default (D3; log entry 1). -/
def opcRfc : Byte := 0x23#8

/-- `REQ_GET_MAX_LUN`. PRESUMED: the spec's default (D22; log entry 1). -/
def reqGetMaxLun : Byte := 0xFE#8

/-- `REQ_RESET`. PRESUMED: the spec's default (D22; log entry 1). -/
def reqReset : Byte := 0xFF#8

/-- The byte sequence behind `INQ_DATA`, OPEN (R7; D4; log entry 2). -/
opaque inqBytes : List Byte

/-- `INQ_DATA`. R7 requires `INQ_LEN < 2^32`: the cut leaves every sequence that meets it as it is, so `inqData`
stands for any legal inquiry payload and for no other (log entry 2). -/
def inqData : List Byte := inqBytes.take 0xFFFFFFFF

/-- `INQ_LEN = |INQ_DATA|` (R7; D4). -/
def inqLen : Nat := inqData.length

/-- `FMT_DESC_BYTE`, byte 8 of the format-capacities payload, OPEN (R7, R98; D5; log entry 2). -/
opaque fmtDescByte : Byte

/-! The unspecified values that the `k`-th `POWER_ON_RESET` leaves in the buffers and latches (R47, R270; U8; log
entry 4). DESIGN CHOICE: they are functions of `k` alone, the same for every instance and every run. -/

/-- What `cbw` holds after the `k`-th power-on. -/
opaque porCbw : Nat → Buf 31

/-- What `csw` holds after the `k`-th power-on. -/
opaque porCsw : Nat → Buf 13

/-- What `fcBuf` holds after the `k`-th power-on. -/
opaque porFcBuf : Nat → Buf 12

/-- What `resLatch` holds after the `k`-th power-on. -/
opaque porResLatch : Nat → Word32

/-- What `stsLatch` holds after the `k`-th power-on. -/
opaque porStsLatch : Nat → Byte

end Sys2Proof.Config
end

