-- ==== Sys2Proof/Syntax.lean ====
section
/-! DEFINITION. Syntax.lean: the nine rows of spec/opcode_table.json. Six are the input events of 30_encoding.md
R103, three are the rows of the dispatcher's opcode map, R104. -/

namespace Sys2Proof

/-- One constructor per row of the opcode table. -/
inductive Instr where
  /-- `POWER_ON_RESET` (R270). -/
  | powerOnReset
  /-- `RX_COMPLETE(n, data)` with the storage inputs of the step (R132, R133; R39). -/
  | rxComplete (n : Word32) (data : List Byte) (blockCount blockSize : Word32)
  /-- `TX_COMPLETE` (R134, R135, R136). -/
  | txComplete
  /-- `TRANSPORT_FAULT` (R138). -/
  | transportFault
  /-- `CLASS_RESET` (R220). -/
  | classReset
  /-- `GET_MAX_LUN` (R221). -/
  | getMaxLun
  /-- `INQUIRY`, command-block opcode `OPC_INQUIRY` (R191). -/
  | inquiry
  /-- `READ_FORMAT_CAPACITIES`, opcode `OPC_RFC`, with the storage inputs it reads (R192). -/
  | readFormatCapacities (blockCount blockSize : Word32)
  /-- `UNSUPPORTED`, any other opcode (R193). -/
  | unsupported (opcode : Byte)
  deriving DecidableEq, Repr

end Sys2Proof
end

