-- ==== Sys2Proof/WellFormed.lean ====
section
/-! DEFINITION. WellFormed.lean: the checks on an instruction's operands that its Lean type does not make. -/

namespace Sys2Proof

/-- How many bytes an `RX_COMPLETE` of actual length `n` carries: `min(n, CBW_RX_MAX)` (20_memory.md R69,
30_encoding.md R103). -/
def rxDataLen (n : Word32) : Nat := min n.toNat Config.cbwRxMax

/-- `RX_COMPLETE` carries exactly `min(n, CBW_RX_MAX)` bytes (R103); `UNSUPPORTED` stands for the opcodes that no
other CDB0 row matches (R193). -/
def Instr.wellFormed : Instr → Bool
  | .powerOnReset => true
  | .rxComplete n data _ _ => data.length == rxDataLen n
  | .txComplete => true
  | .transportFault => true
  | .classReset => true
  | .getMaxLun => true
  | .inquiry => true
  | .readFormatCapacities _ _ => true
  | .unsupported opc => opc != Config.opcInquiry && opc != Config.opcRfc

end Sys2Proof
end

