-- ==== Sys2Proof/Decode.lean ====
section
/-! DEFINITION. Decode.lean: the two decoders of the opcode table and their encoders. An EVENT row is read from a
frame, one code byte and the event's arguments beside it (30_encoding.md R103); a CDB0 row is read from the whole
opcode byte of a command block (R104). -/

namespace Sys2Proof

/-- The opcode table's two formats. -/
inductive Format where
  | event
  | cdb0
  deriving DecidableEq, Repr

/-- Why bytes are no instruction. -/
inductive DecodeError where
  /-- No byte at all. -/
  | emptyFrame
  /-- The code byte names no event: 0x00 and 0x07 to 0xFF (R103, R105). -/
  | noSuchEvent (code : Byte)
  /-- An argument of the event is missing. -/
  | truncated
  /-- Bytes follow the event's last argument. -/
  | trailingBytes
  /-- A command block's opcode is one byte, no fewer and no more (R95). -/
  | notOneOpcode
  deriving DecidableEq, Repr

/-- The bytes of one delivered event: its code byte, then its arguments (R103). -/
abbrev Frame := List Byte

/-- The arguments of `RX_COMPLETE`, in the order of the opcode table: `n` (4 bytes), `data` (`min(n, CBW_RX_MAX)`
bytes), `blockCount` (4), `blockSize` (4). DESIGN CHOICE: the order and the little-endian packing of the arguments
are the model's (log entry 5). -/
def decodeRxArgs : List Byte → Except DecodeError (Instr × List Byte)
  | n0 :: n1 :: n2 :: n3 :: rest =>
    let n := Machine.le32 n0 n1 n2 n3
    if rest.length < rxDataLen n then .error .truncated
    else
      match rest.drop (rxDataLen n) with
      | c0 :: c1 :: c2 :: c3 :: z0 :: z1 :: z2 :: z3 :: rest' =>
        .ok (.rxComplete n (rest.take (rxDataLen n)) (Machine.le32 c0 c1 c2 c3) (Machine.le32 z0 z1 z2 z3), rest')
      | _ => .error .truncated
  | _ => .error .truncated

/-- One event from the front of a byte list, with the bytes after it (R103). -/
def decodeFront : List Byte → Except DecodeError (Instr × List Byte)
  | [] => .error .emptyFrame
  | code :: args =>
    if code = 0x01#8 then .ok (.powerOnReset, args)
    else if code = 0x02#8 then decodeRxArgs args
    else if code = 0x03#8 then .ok (.txComplete, args)
    else if code = 0x04#8 then .ok (.transportFault, args)
    else if code = 0x05#8 then .ok (.classReset, args)
    else if code = 0x06#8 then .ok (.getMaxLun, args)
    else .error (.noSuchEvent code)

/-- One event from a whole frame: no byte may be left over. -/
def decodeFrame (frame : Frame) : Except DecodeError Instr :=
  match decodeFront frame with
  | .ok (i, []) => .ok i
  | .ok (_, _ :: _) => .error .trailingBytes
  | .error e => .error e

/-- The dispatcher's opcode map (R104): all 8 bits compared, every other value is `UNSUPPORTED`. The storage inputs
stand beside the opcode (R39). -/
def decodeOpcode (opc : Byte) (blockCount blockSize : Word32) : Instr :=
  if opc = Config.opcInquiry then .inquiry
  else if opc = Config.opcRfc then .readFormatCapacities blockCount blockSize
  else .unsupported opc

/-- The decoder of one row's bytes in its format, the storage inputs of the step given beside them. -/
def decodeAs (fmt : Format) (bytes : List Byte) (blockCount blockSize : Word32) : Except DecodeError Instr :=
  match fmt, bytes with
  | .event, _ => decodeFrame bytes
  | .cdb0, [opc] => .ok (decodeOpcode opc blockCount blockSize)
  | .cdb0, _ => .error .notOneOpcode

/-- The control-channel request codes (R101); the core handles no other request (R222). -/
def decodeRequest (bRequest : Byte) : Option Instr :=
  if bRequest = Config.reqGetMaxLun then some .getMaxLun
  else if bRequest = Config.reqReset then some .classReset
  else none

/-! ## Encoders -/

/-- The format of an instruction's row. -/
def Instr.format : Instr → Format
  | .powerOnReset => .event
  | .rxComplete _ _ _ _ => .event
  | .txComplete => .event
  | .transportFault => .event
  | .classReset => .event
  | .getMaxLun => .event
  | .inquiry => .cdb0
  | .readFormatCapacities _ _ => .cdb0
  | .unsupported _ => .cdb0

/-- The first byte of an instruction: the event code (R103) or the opcode (R104). -/
def Instr.headByte : Instr → Byte
  | .powerOnReset => 0x01#8
  | .rxComplete _ _ _ _ => 0x02#8
  | .txComplete => 0x03#8
  | .transportFault => 0x04#8
  | .classReset => 0x05#8
  | .getMaxLun => 0x06#8
  | .inquiry => Config.opcInquiry
  | .readFormatCapacities _ _ => Config.opcRfc
  | .unsupported opc => opc

/-- `blockCount` of the step that carries the instruction, 0 where it has none. -/
def Instr.blockCount : Instr → Word32
  | .rxComplete _ _ bc _ => bc
  | .readFormatCapacities bc _ => bc
  | .powerOnReset | .txComplete | .transportFault | .classReset | .getMaxLun | .inquiry | .unsupported _ => 0#32

/-- `blockSize` of the step that carries the instruction, 0 where it has none. -/
def Instr.blockSize : Instr → Word32
  | .rxComplete _ _ _ bs => bs
  | .readFormatCapacities _ bs => bs
  | .powerOnReset | .txComplete | .transportFault | .classReset | .getMaxLun | .inquiry | .unsupported _ => 0#32

/-- The bytes of an instruction in its format: an event's whole frame, or a command's opcode byte. -/
def encode : Instr → List Byte
  | .rxComplete n data bc bs =>
    0x02#8 :: ((Machine.bytesLE32 n).toList ++ data ++ (Machine.bytesLE32 bc).toList ++ (Machine.bytesLE32 bs).toList)
  | .powerOnReset => [0x01#8]
  | .txComplete => [0x03#8]
  | .transportFault => [0x04#8]
  | .classReset => [0x05#8]
  | .getMaxLun => [0x06#8]
  | .inquiry => [Config.opcInquiry]
  | .readFormatCapacities _ _ => [Config.opcRfc]
  | .unsupported opc => [opc]

/-- The pseudo-event `CBW(tag, dtl, flags, lun, cbl, cb)` of R109: the 31 bytes of the wrapper, `cb` padded with
zeros to 16 bytes. -/
def cbwBytes (tag dtl : Word32) (flags lun cbl : Byte) (cb : List Byte) : List Byte :=
  (Machine.bytesLE32 Config.magicA).toList ++ (Machine.bytesLE32 tag).toList ++ (Machine.bytesLE32 dtl).toList ++
    [flags, lun, cbl] ++ (cb ++ List.replicate (16 - cb.length) 0x00#8)

/-- The pseudo-event `CMD_IN(tag, dtl, opc)` of R109. -/
def cmdIn (tag dtl : Word32) (opc : Byte) : List Byte := cbwBytes tag dtl 0x80#8 0x00#8 0x06#8 [opc]

/-- The pseudo-event `CMD_OUT(tag, dtl, opc)` of R109. -/
def cmdOut (tag dtl : Word32) (opc : Byte) : List Byte := cbwBytes tag dtl 0x00#8 0x00#8 0x06#8 [opc]

/-! ## The opcode table's words -/

/-- The `k` low bytes of `w`, the lowest first. -/
def lowBytes : Nat → Nat → List Byte
  | 0, _ => []
  | k + 1, w => BitVec.ofNat 8 w :: lowBytes k (w / 256)

/-- The longest frame: the code byte, `n`, 31 bytes of data and the two storage inputs. -/
def longestFrame : Nat := 44

/-- The instruction whose bits are `w`, its operand bits above `nbits` zero. The EVENT rows are tried first, by their
code byte (R103); a byte that names no event is a CDB0 row's opcode (R104), in the table's order (log entry 6). -/
def decodeTableWord (nbits w : Nat) : Option Instr :=
  match decodeFront (lowBytes (max 1 (nbits / 8)) w ++ List.replicate longestFrame 0x00#8) with
  | .ok (i, _) => some i
  | .error (.noSuchEvent code) => some (decodeOpcode code 0#32 0#32)
  | .error _ => none

end Sys2Proof
end

