-- ==== Sys2Proof/Machine/State.lean ====
section
/-! DEFINITION. Machine/State.lean: the state of one instance of the BOT core (10_state.md R30 to R48), the requests
it issues (R40), the reasons a step can stop, and the state right after reset (R47). -/

namespace Sys2Proof.Machine

/-- The phase register `st` (R31): exactly five values. -/
inductive Phase where
  | idle
  | dataIn
  | dataOut
  | sendingStatus
  | error
  deriving DecidableEq, Repr

/-- The four byte spaces of 20_memory.md R60. -/
inductive Space where
  | cbw
  | csw
  | fcBuf
  | inqData
  deriving DecidableEq, Repr

/-- The bulk endpoint pair, `EP_OUT` and `EP_IN`: opaque identifiers (R72), here two distinct names. -/
inductive Endpoint where
  | epOut
  | epIn
  deriving DecidableEq, Repr

/-- An output of a step (R40). -/
inductive Request where
  /-- `startReceive(buf, maxLength)`. -/
  | startReceive (buf : Space) (maxLength : Nat)
  /-- `startTransmit(src, length)`: transmit `take(src, length)` on the IN endpoint. -/
  | startTransmit (src : Space) (length : Nat)
  /-- `stall(endpoint)`. -/
  | stall (endpoint : Endpoint)
  /-- `ctrlReply(bytes)`. -/
  | ctrlReply (bytes : List Byte)
  deriving DecidableEq, Repr

/-- An adapter transfer that has been requested and not completed (R43). -/
inductive Transfer where
  | receive (buf : Space) (maxLength : Nat)
  | transmit (src : Space) (length : Nat)
  deriving DecidableEq, Repr

/-- The causes of 60_exceptions.md R241, each with its record. They are annotations: no register holds them. -/
inductive Cause where
  /-- Wrong envelope length; the record is `n`. -/
  | fLength (n : Word32)
  /-- Bad signature; the record is the signature read. -/
  | fSignature (signature : Word32)
  /-- Transport fault; the record is the phase it was taken in. -/
  | tFault (phase : Phase)
  /-- Unsupported opcode; the record is the opcode. -/
  | cOpcode (opcode : Byte)
  /-- LUN other than 0; the record is the LUN byte. -/
  | cLun (lun : Byte)
  /-- Command block length outside 1 to 16; the record is the byte. -/
  | cCbl (cbl : Byte)
  deriving DecidableEq, Repr

/-- Why the machine stops with a fault. The spec gives the core no such stop: every error it describes is taken into
the phase `Error` or into a status wrapper, which are next states (60_exceptions.md R240, R242, R244, R245), so the
type has no constructor (log entry 18; safe: no claim can rest on a fault that does not exist). -/
inductive Fault
  deriving DecidableEq, Repr

/-- Why a step is refused. -/
inductive Refusal where
  /-- An instruction without a meaning yet, by its mnemonic. Raised by an arm of `exec`; safe. No arm raises it. -/
  | notModelled (mnemonic : String)
  /-- The pending bytes are no event. Raised by `fetch`: a model refuses a code that names no event (30_encoding.md
  R103; 93_implementation_defined.md U11); safe. -/
  | undecodable (reason : DecodeError)
  /-- An event other than `POWER_ON_RESET` before the first `POWER_ON_RESET`. Raised by `fetch` (70_reset_and_hazards.md
  R271; 93_implementation_defined.md U10); safe. -/
  | firstEventNotPowerOn
  /-- There is no instance of that number. Raised by `Machine/Instances.lean` alone (60_exceptions.md R254); safe. -/
  | noSuchInstance (k : Nat)
  deriving DecidableEq, Repr

/-- The state. The first six fields are `S` of R30. -/
structure State where
  /-- `st`, the phase register (R31). -/
  phase : Phase
  /-- `cbw`, the CBW receive buffer (R32). -/
  cbw : Buf 31
  /-- `csw`, the CSW transmit buffer (R33). -/
  csw : Buf 13
  /-- `fcBuf`, the format-capacities payload buffer (R34). -/
  fcBuf : Buf 12
  /-- `resLatch`, the residue latch (R35). -/
  resLatch : Word32
  /-- `stsLatch`, the status latch (R36). -/
  stsLatch : Byte
  /-- The outstanding transport request, the hidden state of R43 and R47. -/
  outstanding : Option Transfer
  /-- Sources of transmits a reset abandoned, oldest first, whose completion has not been seen (R43, R276; log
  entry 10). -/
  abandoned : List Space
  /-- A `POWER_ON_RESET` has been taken (R271; log entry 13). -/
  started : Bool
  /-- Events pending in the transport, oldest first (R41, R249; log entry 7). -/
  inbox : List Frame
  /-- The requests the last step issued, in order (R30, R40; log entry 8). -/
  out : List Request
  /-- The cause the last step reported (R241; log entry 8). -/
  cause : Option Cause
  /-- Mark: the run has reached the `DataOut` extension point (R137; U1; log entry 12). -/
  extension : Bool
  /-- Mark: a source was written while an abandoned transmit of it was not seen to retire (R276; U13; log entry
  10). -/
  race : Bool
  /-- How many `POWER_ON_RESET` events have been taken: the argument of the free values (log entry 4). -/
  freeCtr : Nat
  deriving DecidableEq, Repr

/-- The state right after the first `POWER_ON_RESET` (R47, R270, R271): `Idle`, one receive armed, that request just
issued. DESIGN CHOICE: the buffers and latches, unspecified there, are zero (log entry 3). -/
def State.reset : State where
  phase := .idle
  cbw := Vector.replicate 31 0x00#8
  csw := Vector.replicate 13 0x00#8
  fcBuf := Vector.replicate 12 0x00#8
  resLatch := 0#32
  stsLatch := 0#8
  outstanding := some (.receive .cbw Config.cbwRxMax)
  abandoned := []
  started := true
  inbox := []
  out := [.startReceive .cbw Config.cbwRxMax]
  cause := none
  extension := false
  race := false
  freeCtr := 0

/-- A state before the first event of a run, with `frames` pending: nothing armed, nothing issued. It has no meaning
of its own (R271); only a `POWER_ON_RESET` is taken in it. -/
def State.beforePowerOn (frames : List Frame) : State :=
  { State.reset with outstanding := none, out := [], started := false, inbox := frames }

end Sys2Proof.Machine
end

