-- ==== Sys2Proof/Machine/Operands.lean ====
section
/-! DEFINITION. Machine/Operands.lean: the operands of the command rows, the fields of the CBW in `cbw` (30_encoding.md
R90, R91; 41_envelope_codec.md R173), and the codes the spec gives phases, causes and status values. -/

namespace Sys2Proof.Machine

/-- The field record of a CBW (R173). -/
structure Fields where
  tagB : Buf 4
  tag : Word32
  dtl : Word32
  dirIn : Bool
  lun : Byte
  cbl : Byte
  opcode : Byte
  deriving DecidableEq, Repr

/-- The signature of the CBW in the buffer, `LE32(buf, 0)` (R91). -/
def signature (buf : Buf 31) : Word32 := readLE32 buf 0

/-- `fields(buf)` (R91, R173). -/
def fields (buf : Buf 31) : Fields where
  tagB := read4 buf 4
  tag := readLE32 buf 4
  dtl := readLE32 buf 8
  dirIn := dirIn buf[12]
  lun := buf[13]
  cbl := buf[14]
  opcode := buf[15]

/-- The phase encoding, 3 bits (R102). -/
def Phase.code : Phase → BitVec 3
  | .idle => 0#3
  | .dataIn => 1#3
  | .dataOut => 2#3
  | .sendingStatus => 3#3
  | .error => 4#3

/-- The phase a 3-bit code stands for; codes 5 to 7 are never held (R102). -/
def phaseOfCode (c : BitVec 3) : Option Phase :=
  if c = 0#3 then some .idle
  else if c = 1#3 then some .dataIn
  else if c = 2#3 then some .dataOut
  else if c = 3#3 then some .sendingStatus
  else if c = 4#3 then some .error
  else none

/-- The cause codes of R241. -/
def Cause.code : Cause → Byte
  | .fLength _ => 0x01#8
  | .fSignature _ => 0x02#8
  | .tFault _ => 0x03#8
  | .cOpcode _ => 0x11#8
  | .cLun _ => 0x12#8
  | .cCbl _ => 0x13#8

/-- A framing cause (R240, R241). -/
def Cause.isFraming : Cause → Bool
  | .fLength _ => true
  | .fSignature _ => true
  | .tFault _ => false
  | .cOpcode _ => false
  | .cLun _ => false
  | .cCbl _ => false

/-- Status code 0, passed (R97). -/
def statusPassed : Byte := 0x00#8

/-- Status code 1, failed (R97). -/
def statusFailed : Byte := 0x01#8

/-- Status code 2, phase error, which this core never writes (R97). -/
def statusPhaseError : Byte := 0x02#8

/-- What a host reads in a CSW's status byte. -/
inductive CswStatus where
  | passed
  | failed
  | phaseError
  deriving DecidableEq, Repr

/-- A host's reading of a CSW status code: codes 3 to 255 are refused (R97; 93_implementation_defined.md U6). -/
def statusOf (code : Byte) : Option CswStatus :=
  if code = statusPassed then some .passed
  else if code = statusFailed then some .failed
  else if code = statusPhaseError then some .phaseError
  else none

end Sys2Proof.Machine
end

