-- ==== Sys2Proof/Machine/Codec.lean ====
section
/-! DEFINITION. Machine/Codec.lean: the command envelope codec of 41_envelope_codec.md, pure functions of their
arguments and the parameters (R176), and the two payload layouts of 30_encoding.md. -/

namespace Sys2Proof.Machine

/-- `decodeCBW(n, buf)` (R170): the length check (R171), then the signature check (R172), then the fields (R173). -/
def decodeCBW (n : Word32) (buf : Buf 31) : Except Cause Fields :=
  if n.toNat ≠ Config.cbwLen then .error (.fLength n)
  else if signature buf ≠ Config.magicA then .error (.fSignature (signature buf))
  else .ok (fields buf)

/-- `meaningful(f)` (R174): the whole LUN byte against `MAX_LUN` (R93), the whole CBL byte against 1 to 16 (R94). -/
def meaningful (f : Fields) : Bool :=
  f.lun == Config.maxLun && decide (1 ≤ f.cbl.toNat) && decide (f.cbl.toNat ≤ 16)

/-- `failCause(f)` (R174), used only when `meaningful f` is false. -/
def failCause (f : Fields) : Cause :=
  if f.lun ≠ Config.maxLun then .cLun f.lun else .cCbl f.cbl

/-- `encodeCSW(tagB, residue, status)` (R175, R96): always 13 bytes. -/
def encodeCSW (tagB : Buf 4) (residue : Word32) (status : Byte) : Buf 13 :=
  bytesLE32 Config.magicB ++ tagB ++ bytesLE32 residue ++ #v[status]

/-- The fields a host reads from the 13 bytes of a CSW (R96, R177). -/
structure CswFields where
  signature : Word32
  tagB : Buf 4
  residue : Word32
  status : Byte
  deriving DecidableEq, Repr

/-- A host's reading of a CSW (R96). -/
def cswFields (csw : Buf 13) : CswFields where
  signature := readLE32 csw 0
  tagB := read4 csw 4
  residue := readLE32 csw 8
  status := csw[12]

/-- `fcPayload(bc, bs)` (R192, R98). -/
def fcPayload (blockCount blockSize : Word32) : Buf 12 :=
  #v[0x00#8, 0x00#8, 0x00#8, 0x08#8] ++ bytesBE32 blockCount ++ #v[Config.fmtDescByte] ++ bytesBE24 blockSize

end Sys2Proof.Machine
end

