-- ==== Sys2Proof/Machine/Ops.lean ====
section
/-! DEFINITION. Machine/Ops.lean: the named operations over the state that the meanings are written from: moving the
phase register, issuing a request, writing a buffer or the latches, entering `Error` and returning from it. -/

namespace Sys2Proof.Machine

/-- `st <- p` (R11, R37). -/
def State.goto (s : State) (p : Phase) : State := { s with phase := p }

/-- The transfer a request makes outstanding (R40, R43): a receive or a transmit; a stall and a control reply make
none. -/
def Request.transfer? : Request → Option Transfer
  | .startReceive buf maxLength => some (.receive buf maxLength)
  | .startTransmit src length => some (.transmit src length)
  | .stall _ => none
  | .ctrlReply _ => none

/-- `emit r` (R12): the request joins the step's outputs. A receive armed while one is armed replaces it (D23); a
stall or a control reply leaves the outstanding transfer as it is (R221). -/
def State.emit (s : State) (r : Request) : State :=
  { s with
    out := s.out ++ [r]
    outstanding := match r.transfer? with
      | some t => some t
      | none => s.outstanding }

/-- The outstanding transfer is over: its completion, or a fault of it, was delivered (R43). -/
def State.retire (s : State) : State := { s with outstanding := none }

/-- A reset abandons a transmit that is outstanding (R43, R276). -/
def State.abandon (s : State) : State :=
  { s with
    outstanding := none
    abandoned := match s.outstanding with
      | some (.transmit src _) => s.abandoned ++ [src]
      | some (.receive _ _) => s.abandoned
      | none => s.abandoned }

/-- A completion the core does not act on retires the oldest abandoned transmit (R136, R43; P3 step 4). -/
def State.retireAbandoned (s : State) : State := { s with abandoned := s.abandoned.tail }

/-- The latches `resLatch` and `stsLatch` (R35, R36). -/
def State.latch (s : State) (residue : Word32) (status : Byte) : State :=
  { s with resLatch := residue, stsLatch := status }

/-- `MemWrite(csw, 0, 13, v)` (R33). A write to a source whose abandoned transmit was not seen to retire is marked as
a race (R276). -/
def State.writeCsw (s : State) (v : Buf 13) : State :=
  { s with csw := v, race := s.race || s.abandoned.contains .csw }

/-- `MemWrite(fcBuf, 0, 12, v)` (R34), with the race mark of R276. -/
def State.writeFcBuf (s : State) (v : Buf 12) : State :=
  { s with fcBuf := v, race := s.race || s.abandoned.contains .fcBuf }

/-- What the transport has written into `cbw` when it delivers `RX_COMPLETE(n, data)`: `take(data, min(n,
CBW_RX_MAX))` from offset 0 on; the bytes past it keep their old values (20_memory.md R69). -/
def receiveInto (cbw : Buf 31) (n : Word32) (data : List Byte) : Buf 31 :=
  memWrite cbw 0 (data.take (rxDataLen n))

/-- The armed receive has completed: its bytes are in `cbw` (R32, R42, R69). -/
def State.receive (s : State) (n : Word32) (data : List Byte) : State :=
  { s with cbw := receiveInto s.cbw n data }

/-- Annotate the step with a cause (R241). -/
def State.report (s : State) (c : Cause) : State := { s with cause := some c }

/-- Mark the run as having reached the extension point (R137; U1). -/
def State.markExtension (s : State) : State := { s with extension := true }

/-- Arm a receive (R15, R40). -/
def State.armReceive (s : State) : State := s.emit (.startReceive .cbw Config.cbwRxMax)

/-- `raise FramingError(cause)`, the Error-entry sequence for a malformed envelope (60_exceptions.md R242, R243). -/
def State.raiseFraming (s : State) (c : Cause) : State :=
  ((s.report c).emit (.stall .epOut)).goto .error

/-- `raise TransportFault()`, the Error-entry sequence for a transport fault (R244): no request. The transfer that
faulted is over (R43, R138; log entry 11). -/
def State.raiseTransportFault (s : State) : State :=
  (s.retire.report (.tFault s.phase)).goto .error

/-- Go idle with a receive armed, whatever phase was active: the return from `Error` and the end of every other phase
(R220, R247, R270). A transmit in flight is abandoned (R43). -/
def State.returnToIdle (s : State) : State := s.abandon.armReceive.goto .idle

/-- The elements `POWER_ON_RESET` leaves unspecified take free values (R47, R270; log entry 4). DESIGN CHOICE: the free
values depend on `freeCtr` alone, so two instances, or two runs, with equal `freeCtr` get the same contents, where R47
and R254 allow any value in each (log entry 4; unsafe for a claim that compares two instances or two runs). -/
def State.loseContents (s : State) : State :=
  { s with
    cbw := Config.porCbw s.freeCtr
    csw := Config.porCsw s.freeCtr
    fcBuf := Config.porFcBuf s.freeCtr
    resLatch := Config.porResLatch s.freeCtr
    stsLatch := Config.porStsLatch s.freeCtr
    freeCtr := s.freeCtr + 1
    started := true }

/-- The length of a space in bytes (20_memory.md R60). -/
def Space.size : Space → Nat
  | .cbw => 31
  | .csw => 13
  | .fcBuf => 12
  | .inqData => Config.inqLen

/-- The bytes of a space (R60). -/
def State.bytes (s : State) : Space → List Byte
  | .cbw => s.cbw.toList
  | .csw => s.csw.toList
  | .fcBuf => s.fcBuf.toList
  | .inqData => Config.inqData

/-- The bytes a request puts on its way, as they stand at the request (R40, R74): `take(src, length)` of a transmit,
the reply of a control request. -/
def State.sent (s : State) : Request → List Byte
  | .startReceive _ _ => []
  | .startTransmit src length => (s.bytes src).take length
  | .stall _ => []
  | .ctrlReply bytes => bytes

end Sys2Proof.Machine
end

