-- ==== Sys2Proof/Machine/Control.lean ====
section
/-! DEFINITION. Machine/Control.lean: the control-channel requests of 43_control_requests.md and the power-on reset of
70_reset_and_hazards.md. -/

namespace Sys2Proof.Machine

/-- CLASS_RESET: any phase goes to `Idle` with a receive armed; buffers and latches keep their values (R220). -/
def execClassReset (s : State) : Host.Outcome State Fault Refusal := .next s.returnToIdle

/-- GET_MAX_LUN: one byte, `MAX_LUN`, in any phase; nothing else changes (R221). -/
def execGetMaxLun (s : State) : Host.Outcome State Fault Refusal := .next (s.emit (.ctrlReply [Config.maxLun]))

/-- POWER_ON_RESET: `Idle` with a receive armed, buffers and latches unspecified, in any phase (R270, R47). -/
def execPowerOnReset (s : State) : Host.Outcome State Fault Refusal := .next s.loseContents.returnToIdle

end Sys2Proof.Machine
end

