-- ==== Sys2Proof/Machine/Router.lean ====
section
/-! DEFINITION. Machine/Router.lean: the direction/length router (42_command_dispatcher.md R194 to R199) and the
execution of the plan it returns (40_protocol_state_machine.md R132). -/

namespace Sys2Proof.Machine

/-- The dispatcher's verdict (R190): a payload source and its length, or a rejection with its cause. -/
inductive Verdict where
  | accepted (src : Space) (plen : Nat)
  | rejected (cause : Cause)
  deriving DecidableEq, Repr

/-- The data-phase plan (R194). -/
inductive Plan where
  /-- `Fail`. -/
  | sendFailed
  /-- `In(src, txlen, residue)`. -/
  | sendData (src : Space) (txlen : Nat) (residue : Word32)
  /-- `Out`. -/
  | hold
  deriving DecidableEq, Repr

/-- `txlen = min(dtl, plen)` (R195). -/
def txLength (dtl : Word32) (plen : Nat) : Nat := min dtl.toNat plen

/-- The residue of an `In` plan, `dtl - txlen`; `txlen` is at most `dtl`, so it never wraps (R196). -/
def residueOf (dtl : Word32) (plen : Nat) : Word32 := BitVec.ofNat 32 (dtl.toNat - txLength dtl plen)

/-- `route(f, d)` (R194): the verdict is tested before the direction. -/
def route (f : Fields) : Verdict → Plan
  | .rejected _ => .sendFailed
  | .accepted src plen =>
    if f.dirIn then .sendData src (txLength f.dtl plen) (residueOf f.dtl plen) else .hold

/-- What `RX_COMPLETE` does on a plan (R132). -/
def State.perform (s : State) (f : Fields) : Plan → State
  | .sendFailed =>
    (((s.latch f.dtl statusFailed).writeCsw (encodeCSW f.tagB f.dtl statusFailed)).emit
      (.startTransmit .csw Config.cswLen)).goto .sendingStatus
  | .sendData src txlen residue =>
    ((s.latch residue statusPassed).emit (.startTransmit src txlen)).goto .dataIn
  | .hold => s.markExtension.goto .dataOut

/-- Route a verdict on the command whose fields are `f` and perform the plan; a rejection is annotated with its cause
(R132, R241). -/
def State.answer (s : State) (f : Fields) : Verdict → State
  | .accepted src plen => s.perform f (route f (.accepted src plen))
  | .rejected c => (s.report c).perform f (route f (.rejected c))

end Sys2Proof.Machine
end

