-- ==== Sys2Proof/Machine/Commands.lean ====
section
/-! DEFINITION. Machine/Commands.lean: the CDB0 rows of the opcode table, the dispatcher's three outcomes
(42_command_dispatcher.md R190 to R193). A command's operands are the fields of the accepted CBW that stands in `cbw`
(R132); its effect is its verdict, routed and performed. The phase and the envelope are `RX_COMPLETE`'s to check,
which runs one of these three (R190; log entry 14). -/

namespace Sys2Proof.Machine

/-- INQUIRY: the payload is the fixed parameter `INQ_DATA` (R191). -/
def execInquiry (s : State) : Host.Outcome State Fault Refusal :=
  .next (s.answer (fields s.cbw) (.accepted .inqData Config.inqLen))

/-- READ FORMAT CAPACITIES: the payload is built in `fcBuf`, whatever the direction (R192). -/
def execReadFormatCapacities (blockCount blockSize : Word32) (s : State) : Host.Outcome State Fault Refusal :=
  .next ((s.writeFcBuf (fcPayload blockCount blockSize)).answer (fields s.cbw) (.accepted .fcBuf Config.fcLen))

/-- UNSUPPORTED: rejected with `C_OPCODE`, no data produced (R193, R198). -/
def execUnsupported (opcode : Byte) (s : State) : Host.Outcome State Fault Refusal :=
  .next (s.answer (fields s.cbw) (.rejected (.cOpcode opcode)))

/-- `dispatch`, table-driven on the whole opcode byte (R190, R104). -/
def dispatchCommand (opcode : Byte) (blockCount blockSize : Word32) (s : State) : Host.Outcome State Fault Refusal :=
  if opcode = Config.opcInquiry then execInquiry s
  else if opcode = Config.opcRfc then execReadFormatCapacities blockCount blockSize s
  else execUnsupported opcode s

end Sys2Proof.Machine
end

