-- ==== Sys2Proof/Machine/Transport.lean ====
section
/-! DEFINITION. Machine/Transport.lean: the events of the transport adapter, 40_protocol_state_machine.md R132 to
R138. -/

namespace Sys2Proof.Machine

/-- Decode the envelope in `cbw`, check its content, and dispatch it or answer it with a failed status (R132, R174). -/
def handleEnvelope (n : Word32) (blockCount blockSize : Word32) (s : State) : Host.Outcome State Fault Refusal :=
  match decodeCBW n s.cbw with
  | .error c => .next (s.raiseFraming c)
  | .ok f =>
    if meaningful f then dispatchCommand f.opcode blockCount blockSize s
    else .next (s.answer f (.rejected (failCause f)))

/-- RX_COMPLETE: in `Idle` the armed receive has completed and its envelope is handled (R132); in every other phase no
receive is armed and the completion is ignored (R133). -/
def execRxComplete (n : Word32) (data : List Byte) (blockCount blockSize : Word32) (s : State) :
    Host.Outcome State Fault Refusal :=
  match s.phase with
  | .idle => handleEnvelope n blockCount blockSize (s.retire.receive n data)
  | .dataIn => .next s
  | .dataOut => .next s
  | .sendingStatus => .next s
  | .error => .next s

/-- Build the CSW from the tag in `cbw` and the latches, and send it (R134). -/
def State.sendStatus (s : State) : State :=
  ((s.writeCsw (encodeCSW (read4 s.cbw 4) s.resLatch s.stsLatch)).emit (.startTransmit .csw Config.cswLen)).goto
    .sendingStatus

/-- TX_COMPLETE: the data transmit is followed by the CSW (R134), the CSW transmit by a new receive (R135, R140); in
the other phases the completion is that of an abandoned transmit, and ignored (R136). -/
def execTxComplete (s : State) : Host.Outcome State Fault Refusal :=
  match s.phase with
  | .idle => .next s.retireAbandoned
  | .dataIn => .next s.retire.sendStatus
  | .dataOut => .next s.retireAbandoned
  | .sendingStatus => .next (s.retire.armReceive.goto .idle)
  | .error => .next s.retireAbandoned

/-- TRANSPORT_FAULT: any phase goes to `Error`, no request (R138). -/
def execTransportFault (s : State) : Host.Outcome State Fault Refusal := .next s.raiseTransportFault

end Sys2Proof.Machine
end

