-- ==== Sys2Proof/Machine/Dispatch.lean ====
section
/-! DEFINITION. Machine/Dispatch.lean: one arm per constructor of Instr. -/

namespace Sys2Proof.Machine

def exec (i : Instr) (s : State) : Host.Outcome State Fault Refusal :=
  match i with
  | .powerOnReset => Sys2Proof.Machine.execPowerOnReset s
  | .rxComplete n data bc bs => Sys2Proof.Machine.execRxComplete n data bc bs s
  | .txComplete => Sys2Proof.Machine.execTxComplete s
  | .transportFault => Sys2Proof.Machine.execTransportFault s
  | .classReset => Sys2Proof.Machine.execClassReset s
  | .getMaxLun => Sys2Proof.Machine.execGetMaxLun s
  | .inquiry => Sys2Proof.Machine.execInquiry s
  | .readFormatCapacities bc bs => Sys2Proof.Machine.execReadFormatCapacities bc bs s
  | .unsupported opc => Sys2Proof.Machine.execUnsupported opc s

end Sys2Proof.Machine
end

