-- ==== Sys2Proof/Machine/Fetch.lean ====
section
/-! DEFINITION. Machine/Fetch.lean: taking the next event. The events wait in the transport until they are delivered,
and delivery is their acknowledgement (60_exceptions.md R249); one event is one step (R130). -/

namespace Sys2Proof.Machine

/-- What the core finds when it looks for its next event. -/
inductive Fetched where
  /-- No event is pending. -/
  | waiting (s : State)
  /-- The pending event is refused. -/
  | refuse (r : Refusal)
  /-- The event taken, and the state it is taken in. -/
  | run (i : Instr) (s : State)
  deriving DecidableEq, Repr

/-- A step begins: no request has been issued and no cause reported yet (R30). -/
def State.begin (s : State) : State := { s with out := [], cause := none }

/-- The pending events are now `frames`. -/
def State.setInbox (s : State) (frames : List Frame) : State := { s with inbox := frames }

/-- A run's first event is `POWER_ON_RESET` (70_reset_and_hazards.md R271). -/
def State.admits (s : State) (i : Instr) : Bool := s.started || i == .powerOnReset

/-- Take the oldest pending event. -/
def fetch (s : State) : Fetched :=
  match s.inbox with
  | [] => .waiting s.begin
  | frame :: rest =>
    match decodeFrame frame with
    | .error e => .refuse (.undecodable e)
    | .ok i => if s.admits i then .run i (s.begin.setInbox rest) else .refuse .firstEventNotPowerOn

/-- The event that makes the core run `i`: an EVENT row is its own frame; a CDB0 row is run by the receive completion
of the wrapper `CMD_IN(0, 0, opcode)` (R109; log entry 6). -/
def carrier (i : Instr) : Instr :=
  match i.format with
  | .event => i
  | .cdb0 => .rxComplete 31#32 (cmdIn 0#32 0#32 i.headByte) i.blockCount i.blockSize

/-- Put `i` where the next step takes its event; a CDB0 row needs the phase `Idle` with a receive armed (R43, R132),
every row but `POWER_ON_RESET` a core that has been powered on (R271). -/
def State.placeNext (s : State) (i : Instr) : State :=
  match i.format with
  | .event => { s with inbox := encode (carrier i) :: s.inbox, started := true }
  | .cdb0 =>
    { s with
      inbox := encode (carrier i) :: s.inbox
      started := true
      phase := .idle
      outstanding := some (.receive .cbw Config.cbwRxMax) }

end Sys2Proof.Machine
end

