-- ==== Sys2Proof/Machine/Step.lean ====
section
/-! DEFINITION. Machine/Step.lean: one step, one event (10_state.md R30, 40_protocol_state_machine.md R130). -/

namespace Sys2Proof.Machine

/-- One step. With no event pending the core waits (R279; log entry 7). -/
def step (s : State) : Host.Outcome State Fault Refusal :=
  match fetch s with
  | .waiting t => .next t
  | .refuse r => .refused r
  | .run i t => exec i t

/-- `s` with the opcode table's word `w` placed so that the next step runs it (log entry 6). -/
def State.withFetchWord (s : State) (nbits w : Nat) : State :=
  match decodeTableWord nbits w with
  | some i => s.placeNext i
  | none => s

end Sys2Proof.Machine
end

