-- ==== Sys2Proof/Machine/Instances.lean ====
section
/-! DEFINITION. Machine/Instances.lean: N_INSTANCES instances of the core, one per session or logical unit, that share
nothing (10_state.md R48, 60_exceptions.md R254). N_INSTANCES is the length of the list (log entry 17). -/

namespace Sys2Proof.Machine

/-- A step of the `k`-th instance: the others are neither read nor written (R48). DESIGN CHOICE, where R7, R38, R47 and
R254 leave it open whether instances may differ: all instances have the one set of parameters in `Config`, the OPEN
`INQ_DATA` and `FMT_DESC_BYTE` and the endpoint pair among them (log entry 23), and two instances with equal `freeCtr`
get the same unspecified contents from a `POWER_ON_RESET` (log entry 4). -/
def stepInstance (k : Nat) (cores : List State) : Host.Outcome (List State) Fault Refusal :=
  match cores[k]? with
  | none => .refused (.noSuchInstance k)
  | some s =>
    match step s with
    | .next t => .next (cores.set k t)
    | .fault r => .fault r
    | .refused r => .refused r

end Sys2Proof.Machine
end

