-- ==== Sys2Proof/Safety.lean ====
section
/-! DEFINITION. Safety.lean: what claims about runs of the core are stated in: the invariant of 10_state.md R43 and
40_protocol_state_machine.md R139, the transition table R131 as data, and the states that runs reach. -/

namespace Sys2Proof.Safety

open Sys2Proof.Machine

/-- The outstanding transfer is the one R43 gives the phase. In `DataIn` it is the data transmit: of the inquiry or
the format-capacities payload, no longer than its source (R68), and the residue latch holds what it leaves of the
host's length (R196). -/
def OutstandingFits (s : State) : Prop :=
  match s.phase with
  | .idle => s.outstanding = some (.receive .cbw Config.cbwRxMax)
  | .dataIn =>
    ∃ src len, s.outstanding = some (.transmit src len) ∧ (src = .inqData ∨ src = .fcBuf) ∧ len ≤ src.size ∧
      s.resLatch.toNat + len = (fields s.cbw).dtl.toNat
  | .sendingStatus => s.outstanding = some (.transmit .csw Config.cswLen)
  | .dataOut => s.outstanding = none
  | .error => s.outstanding = none

/-- In every phase a dispatched command is in, `cbw` still holds the valid CBW that entered it (R134, R139). -/
def CommandStands (s : State) : Prop :=
  s.phase = .dataIn ∨ s.phase = .dataOut ∨ s.phase = .sendingStatus → signature s.cbw = Config.magicA

/-- In `DataIn` the CBW in `cbw` is meaningful, device to host, and its status is passed (R132, R197). -/
def DataPhaseFits (s : State) : Prop :=
  s.phase = .dataIn →
    meaningful (fields s.cbw) = true ∧ (fields s.cbw).dirIn = true ∧ s.stsLatch = statusPassed

/-- In `SendingStatus` the CSW on its way is the one R134 and R198 build: the tag of the CBW in `cbw`, a residue of at
most its length, and a status that is no phase error (R139). -/
def StatusFits (s : State) : Prop :=
  s.phase = .sendingStatus →
    s.csw = encodeCSW (fields s.cbw).tagB s.resLatch s.stsLatch ∧
    s.resLatch.toNat ≤ (fields s.cbw).dtl.toNat ∧
    (s.stsLatch = statusPassed ∨ s.stsLatch = statusFailed)

/-- A run in `DataOut` is marked as having reached the extension point (R137; U1). -/
def ExtensionMarked (s : State) : Prop := s.phase = .dataOut → s.extension = true

/-- The invariant of the powered-on core (R43, R139). -/
structure Inv (s : State) : Prop where
  outstanding : OutstandingFits s
  command : CommandStands s
  dataPhase : DataPhaseFits s
  status : StatusFits s
  marked : ExtensionMarked s

/-- The transition table R131: the phases a cell allows after an event. The CDB0 rows stand inside the `RX_COMPLETE`
cell of `Idle` (R132, R194). -/
def nextPhases : Instr → Phase → List Phase
  | .powerOnReset, _ => [.idle]
  | .rxComplete _ _ _ _, .idle => [.error, .dataIn, .dataOut, .sendingStatus]
  | .rxComplete _ _ _ _, p => [p]
  | .txComplete, .dataIn => [.sendingStatus]
  | .txComplete, .sendingStatus => [.idle]
  | .txComplete, p => [p]
  | .transportFault, _ => [.error]
  | .classReset, _ => [.idle]
  | .getMaxLun, p => [p]
  | .inquiry, _ => [.dataIn, .dataOut]
  | .readFormatCapacities _ _, _ => [.dataIn, .dataOut]
  | .unsupported _, _ => [.sendingStatus]

/-- The states of runs: a run begins with a `POWER_ON_RESET` (R271) or stands right after it, the collaborators add
events in any order (R130, R250), and the core takes them. -/
inductive Reachable : State → Prop where
  | reset : Reachable State.reset
  | poweredOn {s t : State} (h : exec .powerOnReset s = .next t) : Reachable t
  | delivered {s : State} (frame : Frame) (h : Reachable s) : Reachable (s.setInbox (s.inbox ++ [frame]))
  | stepped {s t : State} (h : Reachable s) (hs : step s = .next t) : Reachable t

end Sys2Proof.Safety
end

