-- ==== Sys2Proof/Certificates/Slice0/Obligations.lean ====
section
/-! DEFINITION. Certificates/Slice0/Obligations.lean: the statements about the model, for the provers. Each cites the
rule of spec/ it formalises; "D<n>" is a row of 92_eei_decisions.md, a choice the spec marks as its own. -/

open Sys2Proof Sys2Proof.Machine

/-! ## Encodings -/

/-- Words written out from 30_encoding.md R103 and R104 decode to what they stand for (D3, D25; the order and packing
of the arguments of RX_COMPLETE are the model's, log entry 5). -/
def Obligations.WrittenOutWordsDecode : Prop :=
  decodeFrame [0x01#8] = .ok .powerOnReset ∧
  decodeFrame [0x02#8, 0x0D#8, 0x00#8, 0x00#8, 0x00#8,
    0x55#8, 0x53#8, 0x42#8, 0x43#8, 0x07#8, 0x00#8, 0x00#8, 0x00#8, 0x24#8, 0x00#8, 0x00#8, 0x00#8, 0x80#8,
    0xE8#8, 0x03#8, 0x00#8, 0x00#8, 0x00#8, 0x02#8, 0x00#8, 0x00#8] =
    .ok (.rxComplete 13#32 [0x55#8, 0x53#8, 0x42#8, 0x43#8, 0x07#8, 0x00#8, 0x00#8, 0x00#8, 0x24#8, 0x00#8, 0x00#8,
      0x00#8, 0x80#8] 1000#32 512#32) ∧
  decodeFrame [0x03#8] = .ok .txComplete ∧
  decodeFrame [0x04#8] = .ok .transportFault ∧
  decodeFrame [0x05#8] = .ok .classReset ∧
  decodeFrame [0x06#8] = .ok .getMaxLun ∧
  decodeOpcode 0x12#8 1000#32 512#32 = .inquiry ∧
  decodeOpcode 0x23#8 1000#32 512#32 = .readFormatCapacities 1000#32 512#32 ∧
  decodeOpcode 0xFF#8 1000#32 512#32 = .unsupported 0xFF#8

/-- Decoding the encoding of a well-formed instruction gives it back, with every operand at every value (the frame
layout is the model's, log entry 5; D25). -/
def Obligations.DecodeOfEncodeIsTheInstruction : Prop :=
  ∀ i : Instr, i.wellFormed = true → decodeAs i.format (encode i) i.blockCount i.blockSize = .ok i

/-- A frame that decodes is the encoding of a well-formed event: no two frames stand for one event, and no bit of a
frame is dropped (log entry 5). -/
def Obligations.EncodeOfDecodeIsTheFrame : Prop :=
  ∀ (frame : Frame) (i : Instr), decodeFrame frame = .ok i →
    i.wellFormed = true ∧ i.format = .event ∧ encode i = frame

/-- "Codes 0x00 and 0x07 to 0xFF name no event; a model refuses them" (30_encoding.md section 5; D25).
That the code is the first byte of the oldest pending frame is the model's (log entries 5 and 7). -/
def Obligations.CodesThatNameNoEventAreRefused : Prop :=
  ∀ (s : State) (code : Byte) (args : List Byte) (rest : List Frame),
    s.inbox = (code :: args) :: rest → code = 0x00#8 ∨ 0x07 ≤ code.toNat →
      step s = .refused (.undecodable (.noSuchEvent code))

/-- The control requests the core handles are the two of 30_encoding.md section 4, at the default codes, and no other
(43_control_requests.md; D22). -/
def Obligations.ControlRequestsAreTheTwo : Prop :=
  decodeRequest 0xFE#8 = some .getMaxLun ∧ decodeRequest 0xFF#8 = some .classReset ∧
  ∀ r : Byte, r ≠ 0xFE#8 → r ≠ 0xFF#8 → decodeRequest r = none

/-- The 3-bit phase codes: five are held, 5 to 7 stand for no phase (30_encoding.md section 5; D24). -/
def Obligations.PhaseCodesAreDistinct : Prop :=
  (∀ p : Phase, phaseOfCode p.code = some p) ∧ ∀ c : BitVec 3, phaseOfCode c = none ↔ 5 ≤ c.toNat

/-! ## The envelope codec -/

/-- R173 with R62: the fields of a CBW, its 32-bit fields little-endian. -/
def Obligations.CbwFieldsAreLittleEndian : Prop :=
  ∀ buf : Buf 31,
    (fields buf).tag.toNat =
      buf[4].toNat + 2 ^ 8 * buf[5].toNat + 2 ^ 16 * buf[6].toNat + 2 ^ 24 * buf[7].toNat ∧
    (fields buf).dtl.toNat =
      buf[8].toNat + 2 ^ 8 * buf[9].toNat + 2 ^ 16 * buf[10].toNat + 2 ^ 24 * buf[11].toNat ∧
    (signature buf).toNat =
      buf[0].toNat + 2 ^ 8 * buf[1].toNat + 2 ^ 16 * buf[2].toNat + 2 ^ 24 * buf[3].toNat ∧
    (fields buf).tagB = #v[buf[4], buf[5], buf[6], buf[7]] ∧
    (fields buf).dirIn = buf[12].getLsbD 7 ∧
    (fields buf).lun = buf[13] ∧ (fields buf).cbl = buf[14] ∧ (fields buf).opcode = buf[15]

/-- The round trip of a CBW through the receive buffer, for every field value (41_envelope_codec.md R177, derived
there). -/
def Obligations.CbwRoundTripsThroughTheBuffer : Prop :=
  ∀ (old : Buf 31) (tag dtl : Word32) (flags lun cbl c0 : Byte) (cb : List Byte), cb.length = 15 →
    decodeCBW 31#32 (receiveInto old 31#32 (cbwBytes tag dtl flags lun cbl (c0 :: cb))) =
      .ok { tagB := bytesLE32 tag, tag := tag, dtl := dtl, dirIn := flags.getLsbD 7, lun := lun, cbl := cbl,
            opcode := c0 }

/-- A host reads back from a CSW what `encodeCSW` put in, for every tag, residue and status, under the signature
`MAGIC_B` (41_envelope_codec.md R177, derived there; little-endian by D6). -/
def Obligations.CswRoundTrips : Prop :=
  ∀ (tagB : Buf 4) (residue : Word32) (status : Byte),
    cswFields (encodeCSW tagB residue status) =
      { signature := Config.magicB, tagB := tagB, residue := residue, status := status }

/-- A host's reading of a status code: 0 passed, 1 failed, 2 phase error, nothing else (30_encoding.md section 2;
93_implementation_defined.md U6). -/
def Obligations.StatusCodesRead : Prop :=
  statusOf 0x00#8 = some .passed ∧ statusOf 0x01#8 = some .failed ∧ statusOf 0x02#8 = some .phaseError ∧
  ∀ c : Byte, 3 ≤ c.toNat → statusOf c = none

/-! ## RX_COMPLETE -/

/-- R171 and R242: every actual length other than 31 is a framing error, whatever the bytes. -/
def Obligations.WrongLengthStallsOut : Prop :=
  ∀ (s : State) (n : Word32) (data : List Byte) (bc bs : Word32), s.phase = .idle → n.toNat ≠ 31 →
    ∃ t, exec (.rxComplete n data bc bs) s = .next t ∧
      t.phase = .error ∧ t.out = s.out ++ [.stall .epOut] ∧ t.cause = some (.fLength n) ∧
      t.csw = s.csw ∧ t.fcBuf = s.fcBuf ∧ t.resLatch = s.resLatch ∧ t.stsLatch = s.stsLatch ∧
      t.outstanding = none

/-- R172 and R242: a 31-byte envelope without the signature `MAGIC_A` is malformed; all 32 bits are compared. -/
def Obligations.WrongSignatureStallsOut : Prop :=
  ∀ (s : State) (b0 b1 b2 b3 : Byte) (tail : List Byte) (bc bs : Word32),
    s.phase = .idle → tail.length = 27 → le32 b0 b1 b2 b3 ≠ Config.magicA →
    ∃ t, exec (.rxComplete 31#32 (b0 :: b1 :: b2 :: b3 :: tail) bc bs) s = .next t ∧
      t.phase = .error ∧ t.out = s.out ++ [.stall .epOut] ∧ t.cause = some (.fSignature (le32 b0 b1 b2 b3)) ∧
      t.csw = s.csw ∧ t.fcBuf = s.fcBuf ∧ t.resLatch = s.resLatch ∧ t.stsLatch = s.stsLatch ∧
      t.outstanding = none

/-- What a receive completion leaves in `cbw`, in `Idle`: the bytes received, and past them the old ones (20_memory.md
section 3; D9). -/
def Obligations.ReceiveWritesItsBytes : Prop :=
  ∀ (s : State) (n : Word32) (data : List Byte) (bc bs : Word32), s.phase = .idle → data.length = min n.toNat 31 →
    ∃ t, exec (.rxComplete n data bc bs) s = .next t ∧
      ∀ (k : Nat) (h : k < 31), t.cbw[k] = if hd : k < data.length then data[k] else s.cbw[k]

/-- An accepted envelope runs the command its opcode byte names, on the state in which the receive is over and `cbw`
holds the envelope (R132 and R190; the command rows are the model's reading of them, log entry 14). -/
def Obligations.AcceptedEnvelopeRunsItsCommand : Prop :=
  ∀ (s : State) (data : List Byte) (bc bs : Word32) (u : Buf 31),
    s.phase = .idle → u.toList = data → signature u = Config.magicA → meaningful (fields u) = true →
      ∃ t, exec (.rxComplete 31#32 data bc bs) s = .next t ∧
        exec (decodeOpcode u[15] bc bs) { s with cbw := u, outstanding := none } = .next t

/-- A valid envelope with a LUN other than 0 or a command block length outside 1 to 16 is answered with a failed
status, residue `dtl`, no data and no stall (41_envelope_codec.md section R174; D11, D12, D15). -/
def Obligations.MeaninglessEnvelopeIsAnsweredFailed : Prop :=
  ∀ (s : State) (data : List Byte) (bc bs : Word32) (u : Buf 31),
    s.phase = .idle → u.toList = data → signature u = Config.magicA →
    u[13] ≠ 0x00#8 ∨ u[14] = 0x00#8 ∨ 16 < u[14].toNat →
      exec (.rxComplete 31#32 data bc bs) s =
        .next { s with
          cbw := u
          phase := .sendingStatus
          resLatch := (fields u).dtl
          stsLatch := 0x01#8
          csw := encodeCSW (fields u).tagB (fields u).dtl 0x01#8
          out := s.out ++ [.startTransmit .csw 13]
          outstanding := some (.transmit .csw 13)
          cause := some (if u[13] ≠ 0x00#8 then .cLun u[13] else .cCbl u[14])
          race := s.race || s.abandoned.contains .csw }

/-- A receive completion outside `Idle` changes nothing and issues nothing (40_protocol_state_machine.md section 2;
D17). -/
def Obligations.ReceiveOutsideIdleIsIgnored : Prop :=
  ∀ (s : State) (n : Word32) (data : List Byte) (bc bs : Word32), s.phase ≠ .idle →
    exec (.rxComplete n data bc bs) s = .next s

/-- The frame of RX_COMPLETE in every phase: what a receive completion never changes, and when a buffer or a latch
may change; outside `Idle` nothing changes at all (R132, R133; D17). -/
def Obligations.ReceiveFrame : Prop :=
  ∀ (s t : State) (n : Word32) (data : List Byte) (bc bs : Word32),
    exec (.rxComplete n data bc bs) s = .next t →
      t.inbox = s.inbox ∧ t.started = s.started ∧ t.freeCtr = s.freeCtr ∧ t.abandoned = s.abandoned ∧
      (t.fcBuf = s.fcBuf ∨ s.phase = .idle ∧ t.cbw[15] = Config.opcRfc ∧ t.fcBuf = fcPayload bc bs) ∧
      (t.csw = s.csw ∨
        s.phase = .idle ∧ t.phase = .sendingStatus ∧ t.csw = encodeCSW (fields t.cbw).tagB (fields t.cbw).dtl 0x01#8) ∧
      (t.resLatch = s.resLatch ∧ t.stsLatch = s.stsLatch ∨
        s.phase = .idle ∧ (t.phase = .dataIn ∨ t.phase = .sendingStatus)) ∧
      (s.phase ≠ .idle → t = s)

/-- Which cause a receive completion reports when several apply: the first of F_LENGTH, F_SIGNATURE, C_LUN, C_CBL,
C_OPCODE (60_exceptions.md section 4, order of causes; D10). -/
def Obligations.FirstCauseIsReported : Prop :=
  ∀ (s : State) (n : Word32) (data : List Byte) (bc bs : Word32) (u : Buf 31),
    s.phase = .idle → s.cause = none → u = receiveInto s.cbw n data →
    ∃ t, exec (.rxComplete n data bc bs) s = .next t ∧
      t.cause =
        if n.toNat ≠ 31 then some (.fLength n)
        else if signature u ≠ Config.magicA then some (.fSignature (signature u))
        else if u[13] ≠ 0x00#8 then some (.cLun u[13])
        else if u[14].toNat < 1 ∨ 16 < u[14].toNat then some (.cCbl u[14])
        else if u[15] ≠ Config.opcInquiry ∧ u[15] ≠ Config.opcRfc then some (.cOpcode u[15])
        else none

/-- Of the envelope only the signature, the tag, the length, bit 7 of the flags, the LUN, the command block length and
the opcode are read: two envelopes that agree there end in states that differ in `cbw` alone (30_encoding.md sections
1 and 6, 42_command_dispatcher.md section 3; D13, D20). -/
def Obligations.UnreadEnvelopeBitsDoNotMatter : Prop :=
  ∀ (s : State) (bc bs : Word32) (u v : Buf 31), s.phase = .idle →
    (∀ (k : Nat) (h : k < 31), k < 16 → k ≠ 12 → u[k] = v[k]) → u[12].getLsbD 7 = v[12].getLsbD 7 →
    ∃ t, exec (.rxComplete 31#32 u.toList bc bs) s = .next t ∧
      exec (.rxComplete 31#32 v.toList bc bs) s = .next { t with cbw := v }

/-- The storage collaborator's two values are read by READ FORMAT CAPACITIES alone (10_state.md section 2, storage
collaborator inputs; D21). -/
def Obligations.StorageValuesAreReadByOneCommand : Prop :=
  ∀ (s : State) (bc bs bc' bs' : Word32) (u : Buf 31), s.phase = .idle → u[15] ≠ Config.opcRfc →
    exec (.rxComplete 31#32 u.toList bc bs) s = exec (.rxComplete 31#32 u.toList bc' bs') s

/-! ## The commands -/

/-- R195, R196, R197 for INQUIRY: the payload cut to the host's length, the residue that leaves, status passed. -/
def Obligations.InquirySendsTheTruncatedPayload : Prop :=
  ∀ s : State, (fields s.cbw).dirIn = true →
    ∃ t, exec .inquiry s = .next t ∧
      t.phase = .dataIn ∧
      t.out = s.out ++ [.startTransmit .inqData (min (fields s.cbw).dtl.toNat Config.inqData.length)] ∧
      t.sent (.startTransmit .inqData (min (fields s.cbw).dtl.toNat Config.inqData.length)) =
        Config.inqData.take (fields s.cbw).dtl.toNat ∧
      t.resLatch.toNat = (fields s.cbw).dtl.toNat - min (fields s.cbw).dtl.toNat Config.inqData.length ∧
      (t.resLatch = 0#32 ↔ (fields s.cbw).dtl.toNat ≤ Config.inqData.length) ∧
      t.stsLatch = 0x00#8

/-- R195, R196, R197 for READ FORMAT CAPACITIES: the 12-byte payload just built, cut to the host's length. -/
def Obligations.FormatCapacitiesSendsTheTruncatedPayload : Prop :=
  ∀ (s : State) (bc bs : Word32), (fields s.cbw).dirIn = true →
    ∃ t, exec (.readFormatCapacities bc bs) s = .next t ∧
      t.phase = .dataIn ∧
      t.out = s.out ++ [.startTransmit .fcBuf (min (fields s.cbw).dtl.toNat 12)] ∧
      t.sent (.startTransmit .fcBuf (min (fields s.cbw).dtl.toNat 12)) =
        (fcPayload bc bs).toList.take (fields s.cbw).dtl.toNat ∧
      t.resLatch.toNat = (fields s.cbw).dtl.toNat - min (fields s.cbw).dtl.toNat 12 ∧
      (t.resLatch = 0#32 ↔ (fields s.cbw).dtl.toNat ≤ 12) ∧
      t.stsLatch = 0x00#8

/-- R64: the block count is a 4-byte and the block size a 3-byte big-endian value of the format-capacities payload,
for every block size that fits. -/
def Obligations.FormatCapacitiesIsBigEndian : Prop :=
  ∀ (s : State) (bc bs : Word32), bs.toNat < 2 ^ 24 →
    ∃ t, exec (.readFormatCapacities bc bs) s = .next t ∧
      bc.toNat = 2 ^ 24 * t.fcBuf[4].toNat + 2 ^ 16 * t.fcBuf[5].toNat + 2 ^ 8 * t.fcBuf[6].toNat + t.fcBuf[7].toNat ∧
      bs.toNat = 2 ^ 16 * t.fcBuf[9].toNat + 2 ^ 8 * t.fcBuf[10].toNat + t.fcBuf[11].toNat

/-- The other bytes of the format-capacities payload, and what a block size of 2^24 or more leaves: three zero bytes,
the capacity-list length 8, the OPEN descriptor byte, the low 24 bits of the size (30_encoding.md section 3; D5,
D21). -/
def Obligations.FormatCapacitiesFillsItsBuffer : Prop :=
  ∀ (s : State) (bc bs : Word32),
    ∃ t, exec (.readFormatCapacities bc bs) s = .next t ∧
      t.fcBuf[0] = 0x00#8 ∧ t.fcBuf[1] = 0x00#8 ∧ t.fcBuf[2] = 0x00#8 ∧ t.fcBuf[3] = 0x08#8 ∧
      t.fcBuf[8] = Config.fmtDescByte ∧
      2 ^ 16 * t.fcBuf[9].toNat + 2 ^ 8 * t.fcBuf[10].toNat + t.fcBuf[11].toNat = bs.toNat % 2 ^ 24

/-- INQUIRY and READ FORMAT CAPACITIES in the device-to-host direction: the whole next state, the residue being what
the truncation leaves of the host's length (40_protocol_state_machine.md section 2; 42_command_dispatcher.md sections 1
and 2; the race mark is log entry 10). -/
def Obligations.AcceptedInCommandFrame : Prop :=
  ∀ (s : State) (bc bs : Word32), (fields s.cbw).dirIn = true →
    exec .inquiry s = .next { s with
      phase := .dataIn
      resLatch := BitVec.ofNat 32 ((fields s.cbw).dtl.toNat - min (fields s.cbw).dtl.toNat Config.inqLen)
      stsLatch := 0x00#8
      out := s.out ++ [.startTransmit .inqData (min (fields s.cbw).dtl.toNat Config.inqLen)]
      outstanding := some (.transmit .inqData (min (fields s.cbw).dtl.toNat Config.inqLen)) } ∧
    exec (.readFormatCapacities bc bs) s = .next { s with
      phase := .dataIn
      resLatch := BitVec.ofNat 32 ((fields s.cbw).dtl.toNat - min (fields s.cbw).dtl.toNat 12)
      stsLatch := 0x00#8
      fcBuf := fcPayload bc bs
      out := s.out ++ [.startTransmit .fcBuf (min (fields s.cbw).dtl.toNat 12)]
      outstanding := some (.transmit .fcBuf (min (fields s.cbw).dtl.toNat 12))
      race := s.race || s.abandoned.contains .fcBuf }

/-- An accepted command in the host-to-device direction goes to the hold `DataOut`: no request, no latch; the
format-capacities payload is built all the same (42_command_dispatcher.md sections 1 and 2; D16). -/
def Obligations.AcceptedOutCommandHolds : Prop :=
  ∀ (s : State) (bc bs : Word32), (fields s.cbw).dirIn = false →
    exec .inquiry s = .next { s with phase := .dataOut, extension := true } ∧
    exec (.readFormatCapacities bc bs) s = .next { s with
      phase := .dataOut
      extension := true
      fcBuf := fcPayload bc bs
      race := s.race || s.abandoned.contains .fcBuf }

/-- An unsupported opcode is answered with a failed status: the tag echoed, residue the full `dtl`, no data, no stall,
in both directions (42_command_dispatcher.md sections 1 and 2, R193 and R198; the path is D15). -/
def Obligations.UnsupportedCommandIsAnsweredFailed : Prop :=
  ∀ (s : State) (opc : Byte),
    exec (.unsupported opc) s = .next { s with
      phase := .sendingStatus
      resLatch := (fields s.cbw).dtl
      stsLatch := 0x01#8
      csw := encodeCSW (fields s.cbw).tagB (fields s.cbw).dtl 0x01#8
      out := s.out ++ [.startTransmit .csw 13]
      outstanding := some (.transmit .csw 13)
      cause := some (.cOpcode opc)
      race := s.race || s.abandoned.contains .csw }

/-! ## TX_COMPLETE and TRANSPORT_FAULT -/

/-- R134: the data transmit is followed by the CSW built from the tag bytes in `cbw` and the two latches; the latches
are read, not written. -/
def Obligations.DataCompletionSendsTheStatus : Prop :=
  ∀ s : State, s.phase = .dataIn →
    ∃ t, exec .txComplete s = .next t ∧
      t.csw = encodeCSW #v[s.cbw[4], s.cbw[5], s.cbw[6], s.cbw[7]] s.resLatch s.stsLatch ∧
      t.out = s.out ++ [.startTransmit .csw 13] ∧ t.phase = .sendingStatus ∧
      t.resLatch = s.resLatch ∧ t.stsLatch = s.stsLatch ∧ t.cbw = s.cbw

/-- The frame of that completion: the whole next state (40_protocol_state_machine.md section 3; 10_state.md section 4;
the race mark is log entry 10). -/
def Obligations.DataCompletionFrame : Prop :=
  ∀ s : State, s.phase = .dataIn →
    exec .txComplete s = .next { s with
      phase := .sendingStatus
      csw := encodeCSW (fields s.cbw).tagB s.resLatch s.stsLatch
      out := s.out ++ [.startTransmit .csw 13]
      outstanding := some (.transmit .csw 13)
      race := s.race || s.abandoned.contains .csw }

/-- R135: the CSW transmit is followed by a new receive, and the core goes idle at once. -/
def Obligations.StatusCompletionArmsTheReceive : Prop :=
  ∀ s : State, s.phase = .sendingStatus →
    exec .txComplete s = .next { s with
      phase := .idle
      out := s.out ++ [.startReceive .cbw 31]
      outstanding := some (.receive .cbw 31) }

/-- A transmit completion in another phase is ignored; it retires the oldest abandoned transmit, if there is one
(40_protocol_state_machine.md section 3; D17; the list of abandoned transmits is log entry 10). -/
def Obligations.OtherTransmitCompletionsAreIgnored : Prop :=
  ∀ s : State, s.phase = .idle ∨ s.phase = .dataOut ∨ s.phase = .error →
    exec .txComplete s = .next { s with abandoned := s.abandoned.tail }

/-- A transport fault enters `Error` from every phase and issues nothing (40_protocol_state_machine.md section 5,
60_exceptions.md section 2; D18; that the transfer is over is log entry 11). -/
def Obligations.TransportFaultEntersError : Prop :=
  ∀ s : State,
    exec .transportFault s = .next { s with phase := .error, outstanding := none, cause := some (.tFault s.phase) }

/-! ## Control requests and power-on -/

/-- R247: of the six events, the two resets and no other leave `Error`; they set `Idle` and arm a receive. -/
def Obligations.ReturnFromErrorGoesIdle : Prop :=
  ∀ (s : State) (i : Instr), s.phase = .error → i.format = .event →
    ∃ t, exec i s = .next t ∧ (t.phase ≠ .error ↔ i = .classReset ∨ i = .powerOnReset) ∧
      (i = .classReset ∨ i = .powerOnReset →
        t.phase = .idle ∧ t.out = s.out ++ [.startReceive .cbw 31] ∧ t.outstanding = some (.receive .cbw 31))

/-- CLASS_RESET from any phase: `Idle`, a receive armed, buffers and latches kept, a transmit in flight abandoned
(43_control_requests.md, the request and its example; D23, D34). -/
def Obligations.ClassResetGoesIdle : Prop :=
  ∀ s : State,
    exec .classReset s = .next { s with
      phase := .idle
      out := s.out ++ [.startReceive .cbw 31]
      outstanding := some (.receive .cbw 31)
      abandoned := match s.outstanding with
        | some (.transmit src _) => s.abandoned ++ [src]
        | some (.receive _ _) => s.abandoned
        | none => s.abandoned }

/-- Two class resets leave the state of one, but for the repeated request (43_control_requests.md R223, derived there;
C7, D23). -/
def Obligations.ClassResetTwiceIsOnce : Prop :=
  ∀ s t : State, exec .classReset s = .next t →
    exec .classReset t = .next { t with out := t.out ++ [.startReceive .cbw 31] }

/-- R100: the get-max-LUN reply is exactly one byte, 0, in every phase. -/
def Obligations.GetMaxLunAnswersZero : Prop :=
  ∀ s : State, ∃ t, exec .getMaxLun s = .next t ∧ t.out = s.out ++ [.ctrlReply [0x00#8]]

/-- GET_MAX_LUN changes nothing but the outputs, the outstanding transfer included (43_control_requests.md; D32). -/
def Obligations.GetMaxLunChangesNothingElse : Prop :=
  ∀ s t : State, exec .getMaxLun s = .next t → { t with out := s.out } = s

/-- POWER_ON_RESET from any state: `Idle`, a receive armed, buffers and latches at free values, whatever those are
(70_reset_and_hazards.md section 1; D8; log entry 4). -/
def Obligations.PowerOnLeavesContentsUnspecified : Prop :=
  ∀ s : State,
    exec .powerOnReset s = .next { s with
      phase := .idle
      cbw := Config.porCbw s.freeCtr
      csw := Config.porCsw s.freeCtr
      fcBuf := Config.porFcBuf s.freeCtr
      resLatch := Config.porResLatch s.freeCtr
      stsLatch := Config.porStsLatch s.freeCtr
      freeCtr := s.freeCtr + 1
      started := true
      out := s.out ++ [.startReceive .cbw 31]
      outstanding := some (.receive .cbw 31)
      abandoned := match s.outstanding with
        | some (.transmit src _) => s.abandoned ++ [src]
        | some (.receive _ _) => s.abandoned
        | none => s.abandoned }

/-- The state after reset is what the first POWER_ON_RESET of a run leaves, but for the values it leaves unspecified
(10_state.md section 5; D8; that State.reset holds zeros there is the model's choice, log entry 3). -/
def Obligations.ResetIsThePowerOnResult : Prop :=
  ∀ frames : List Frame, ∃ t,
    step (State.beforePowerOn ([0x01#8] :: frames)) = .next t ∧
    State.reset = { t with
      cbw := State.reset.cbw
      csw := State.reset.csw
      fcBuf := State.reset.fcBuf
      resLatch := State.reset.resLatch
      stsLatch := State.reset.stsLatch
      inbox := []
      freeCtr := 0 } ∧
    State.reset.phase = .idle ∧ State.reset.outstanding = some (.receive .cbw 31) ∧
    State.reset.out = [.startReceive .cbw 31]

/-! ## The step -/

/-- One event is one step, and the step is the event's rule (10_state.md section 1, 40_protocol_state_machine.md section
1). How the model hands it the event is the model's choice: the pending events stand in `inbox` as frames and the
oldest is taken (DESIGN CHOICE, log entries 5 and 7), and the step begins with the outputs and the cause of the step
before cleared (DESIGN CHOICE, log entry 8). That `started` admits the event is log entry 13. -/
def Obligations.StepRunsTheDecodedEvent : Prop :=
  ∀ (s : State) (frame : Frame) (rest : List Frame) (i : Instr),
    s.inbox = frame :: rest → decodeFrame frame = .ok i → s.started = true ∨ i = .powerOnReset →
      step s = exec i { s with inbox := rest, out := [], cause := none }

/-- With no event pending the core waits in its phase (70_reset_and_hazards.md section 4). That this is a step, and that
it clears the outputs and the cause, are the model's choices (DESIGN CHOICE, log entries 7 and 8). -/
def Obligations.StepWithoutEventsWaits : Prop :=
  ∀ s : State, s.inbox = [] → step s = .next { s with out := [], cause := none }

/-- Before the first POWER_ON_RESET every other event is refused (70_reset_and_hazards.md section 1, initial state of
a run; D8). The mark `started` and the pending frames are the model's (log entries 7 and 13). -/
def Obligations.FirstEventMustBePowerOn : Prop :=
  ∀ (s : State) (frame : Frame) (rest : List Frame) (i : Instr),
    s.started = false → s.inbox = frame :: rest → decodeFrame frame = .ok i → i ≠ .powerOnReset →
      step s = .refused .firstEventNotPowerOn

/-- Every instruction of the table runs from every state: none faults, none is refused (30_encoding.md section 5,
40_protocol_state_machine.md section 1). -/
def Obligations.EveryInstructionCompletes : Prop :=
  ∀ (i : Instr) (s : State), ∃ t, exec i s = .next t

/-- The transition table: after an event the phase is one its cell allows (40_protocol_state_machine.md section 1; D16,
D17, D18). -/
def Obligations.TransitionTableHolds : Prop :=
  ∀ (i : Instr) (s t : State), exec i s = .next t → t.phase ∈ Safety.nextPhases i s.phase

/-- A step issues at most one request (10_state.md section 3, outputs, derived there). -/
def Obligations.StepIssuesAtMostOneRequest : Prop :=
  ∀ s t : State, step s = .next t → t.out.length ≤ 1

/-- Every transmit is of one of the three sources and no longer than it, and no request names another buffer, another
limit or the IN endpoint (10_state.md section 3, 20_memory.md section 3, derived there; 60_exceptions.md section 2). -/
def Obligations.RequestsStayInTheirContract : Prop :=
  ∀ (s t : State) (r : Request), step s = .next t → r ∈ t.out →
    (∃ src len, r = .startTransmit src len ∧ src ≠ .cbw ∧ len ≤ src.size) ∨
    r = .startReceive .cbw 31 ∨ r = .stall .epOut ∨ r = .ctrlReply [0x00#8]

/-- The status latch: what an event other than POWER_ON_RESET writes into it is 0 or 1 (10_state.md section 2,
30_encoding.md section 2; D19). The value that POWER_ON_RESET leaves in it is unspecified (log entry 4), and stays until
a step writes the latch. -/
def Obligations.StatusLatchIsWrittenZeroOrOne : Prop :=
  ∀ (i : Instr) (s t : State), i ≠ .powerOnReset → exec i s = .next t →
    t.stsLatch = s.stsLatch ∨ t.stsLatch = 0x00#8 ∨ t.stsLatch = 0x01#8

/-- In `Error` nothing is transmitted, and only a class reset or a power-on leaves it (40_protocol_state_machine.md
section 6, property 3; 60_exceptions.md section 3; D17, D18). The event is named by its pending frame (log entries 5 and 7). -/
def Obligations.ErrorSendsNothingUntilReset : Prop :=
  ∀ s t : State, s.phase = .error → step s = .next t →
    (∀ src len, Request.startTransmit src len ∉ t.out) ∧
    (t.phase = .error ∨ t.phase = .idle ∧ ∃ rest, s.inbox = [0x05#8] :: rest ∨ s.inbox = [0x01#8] :: rest)

/-- `DataOut` is a hold: only a fault, a class reset or a power-on leaves it; until then no transfer is requested and
no buffer or latch changes (40_protocol_state_machine.md section 4; D16). The event is named by its pending frame (log
entries 5 and 7). -/
def Obligations.DataOutHoldsUntilResetOrFault : Prop :=
  ∀ s t : State, s.phase = .dataOut → step s = .next t →
    (t.phase = .dataOut ∧ (∀ r ∈ t.out, r = .ctrlReply [0x00#8]) ∧ t.cbw = s.cbw ∧ t.csw = s.csw ∧ t.fcBuf = s.fcBuf ∧
      t.resLatch = s.resLatch ∧ t.stsLatch = s.stsLatch ∧ t.outstanding = s.outstanding) ∨
    (∃ rest, s.inbox = [0x04#8] :: rest) ∧ t.phase = .error ∨
    (∃ rest, s.inbox = [0x05#8] :: rest ∨ s.inbox = [0x01#8] :: rest) ∧ t.phase = .idle

/-- Either reset, finding a transmit outstanding, lists its source as abandoned; and in every state that lists a source
as abandoned, every step that writes the source sets the race mark: for `csw` a rejected command, the completion of the
data transmit, and the envelope that ends in a failed status; for `fcBuf` READ FORMAT CAPACITIES, and its envelope
(10_state.md section 4, 70_reset_and_hazards.md section 3). The list and the mark are the model's (DEDUCED, log entry
10). -/
def Obligations.WriteAfterAbandonedTransmitIsARace : Prop :=
  ∀ s : State,
    (∀ (src : Space) (len : Nat), s.outstanding = some (.transmit src len) →
      (∃ t, exec .classReset s = .next t ∧ src ∈ t.abandoned) ∧
      ∃ t, exec .powerOnReset s = .next t ∧ src ∈ t.abandoned) ∧
    (.csw ∈ s.abandoned →
      (∀ opc : Byte, ∃ t, exec (.unsupported opc) s = .next t ∧ t.race = true) ∧
      (s.phase = .dataIn → ∃ t, exec .txComplete s = .next t ∧ t.race = true) ∧
      ∀ (u : Buf 31) (bc bs : Word32), s.phase = .idle → signature u = Config.magicA →
        meaningful (fields u) = false ∨ u[15] ≠ Config.opcInquiry ∧ u[15] ≠ Config.opcRfc →
          ∃ t, exec (.rxComplete 31#32 u.toList bc bs) s = .next t ∧ t.race = true) ∧
    (.fcBuf ∈ s.abandoned →
      (∀ bc bs : Word32, ∃ t, exec (.readFormatCapacities bc bs) s = .next t ∧ t.race = true) ∧
      ∀ (u : Buf 31) (bc bs : Word32), s.phase = .idle → signature u = Config.magicA →
        meaningful (fields u) = true → u[15] = Config.opcRfc →
          ∃ t, exec (.rxComplete 31#32 u.toList bc bs) s = .next t ∧ t.race = true)

/-- What stands between an abandoned transmit and a race, in any step of any instruction: the race mark is never taken
back; a source stays listed unless a TX_COMPLETE in `Idle`, `DataOut` or `Error` retires it; and the mark is set by
nothing but a step that builds a CSW while `csw` is listed or a format-capacities payload while `fcBuf` is (10_state.md
section 4, 70_reset_and_hazards.md section 3; the list and the mark are the model's, DEDUCED, log entry 10). -/
def Obligations.RaceMarkMeansAnAbandonedSourceWasWritten : Prop :=
  ∀ (i : Instr) (s t : State), exec i s = .next t →
    (s.race = true → t.race = true) ∧
    (i ≠ .txComplete ∨ s.phase = .dataIn ∨ s.phase = .sendingStatus → ∀ src ∈ s.abandoned, src ∈ t.abandoned) ∧
    (t.race = true →
      s.race = true ∨
      .csw ∈ s.abandoned ∧ t.phase = .sendingStatus ∧ t.csw = encodeCSW (fields t.cbw).tagB t.resLatch t.stsLatch ∨
      .fcBuf ∈ s.abandoned ∧ ∃ bc bs : Word32, t.fcBuf = fcPayload bc bs)

/-! ## Invariants and whole-machine rules -/

/-- The state after reset meets the invariant (10_state.md section 5; its zeros are the model's, log entry 3). -/
def Obligations.ResetMeetsTheInvariant : Prop := Safety.Inv State.reset

/-- POWER_ON_RESET establishes the invariant from any state, whatever the unspecified values are
(70_reset_and_hazards.md section 1; D8). -/
def Obligations.PowerOnEstablishesTheInvariant : Prop :=
  ∀ s t : State, exec .powerOnReset s = .next t → Safety.Inv t

/-- Every step keeps the invariant: one transfer outstanding, the one of the phase's row of the table; `cbw` still the
CBW that was accepted; the residue within its length; the CSW the one its tag, residue and status make
(40_protocol_state_machine.md section 6; 10_state.md section 4; derived there). -/
def Obligations.StepKeepsTheInvariant : Prop :=
  ∀ s t : State, Safety.Inv s → step s = .next t → Safety.Inv t

/-- Every state that a run reaches, under any order of events, meets the invariant (40_protocol_state_machine.md
section 6, derived there). -/
def Obligations.ReachableStatesMeetTheInvariant : Prop :=
  ∀ s : State, Safety.Reachable s → Safety.Inv s

/-- Every status wrapper that a step sends has 13 bytes and the CSW signature, echoes the tag of the accepted CBW in
`cbw`, reports a residue of at most its length, and a status of passed or failed (40_protocol_state_machine.md section
6, properties 1 and 2, derived there; D19). -/
def Obligations.EveryStatusEchoesItsCommand : Prop :=
  ∀ (s t : State) (len : Nat), Safety.Inv s → step s = .next t → .startTransmit .csw len ∈ t.out →
    len = 13 ∧ signature t.cbw = Config.magicA ∧
    (cswFields t.csw).signature = Config.magicB ∧
    (cswFields t.csw).tagB = (fields t.cbw).tagB ∧
    (cswFields t.csw).residue.toNat ≤ (fields t.cbw).dtl.toNat ∧
    ((cswFields t.csw).status = 0x00#8 ∨ (cswFields t.csw).status = 0x01#8)

/-- An accepted device-to-host command whose transfers complete runs `Idle`, `DataIn`, `SendingStatus`, `Idle` in three
steps and sends one CSW: its tag, the residue the truncation leaves, status passed (40_protocol_state_machine.md
section 6, property 6, derived there; D14). The frames pending in `inbox` are the model's (log entries 5 and 7). -/
def Obligations.AcceptedTransactionRunsToIdle : Prop :=
  ∀ (s : State) (bc bs : Word32) (u : Buf 31) (rest : List Frame),
    s.started = true → s.phase = .idle →
    s.inbox = encode (.rxComplete 31#32 u.toList bc bs) :: [0x03#8] :: [0x03#8] :: rest →
    signature u = Config.magicA → meaningful (fields u) = true → (fields u).dirIn = true →
    u[15] = Config.opcInquiry ∨ u[15] = Config.opcRfc →
    ∃ (a b c : State) (src : Space) (len : Nat), step s = .next a ∧ step a = .next b ∧ step b = .next c ∧
      a.phase = .dataIn ∧ a.out = [.startTransmit src len] ∧ len ≤ src.size ∧
      b.phase = .sendingStatus ∧ b.out = [.startTransmit .csw 13] ∧
      (cswFields b.csw).tagB = (fields u).tagB ∧ (cswFields b.csw).status = 0x00#8 ∧
      (cswFields b.csw).residue.toNat + len = (fields u).dtl.toNat ∧
      c.phase = .idle ∧ c.out = [.startReceive .cbw 31] ∧ c.inbox = rest

/-- A rejected command whose CSW transmit completes runs `Idle`, `SendingStatus`, `Idle` in two steps and sends one
CSW with its tag, its whole length as residue and status failed (40_protocol_state_machine.md section 6, property 6,
derived there; D11, D12, D15). The frames pending in `inbox` are the model's (log entries 5 and 7). -/
def Obligations.RejectedTransactionRunsToIdle : Prop :=
  ∀ (s : State) (bc bs : Word32) (u : Buf 31) (rest : List Frame),
    s.started = true → s.phase = .idle →
    s.inbox = encode (.rxComplete 31#32 u.toList bc bs) :: [0x03#8] :: rest →
    signature u = Config.magicA →
    meaningful (fields u) = false ∨ u[15] ≠ Config.opcInquiry ∧ u[15] ≠ Config.opcRfc →
    ∃ a b : State, step s = .next a ∧ step a = .next b ∧
      a.phase = .sendingStatus ∧ a.out = [.startTransmit .csw 13] ∧
      cswFields a.csw =
        { signature := Config.magicB, tagB := (fields u).tagB, residue := (fields u).dtl, status := 0x01#8 } ∧
      b.phase = .idle ∧ b.out = [.startReceive .cbw 31] ∧ b.inbox = rest

/-- R48: an instance's step neither writes the other instances nor depends on them, and it is the step of that
instance's state: it answers a next state exactly where `step` does, with the state `step` answers in its place (the
list of instances is the model's, log entry 17). -/
def Obligations.InstancesShareNothing : Prop :=
  ∀ (k : Nat) (cores : List State),
    (∀ s t : State, cores[k]? = some s → step s = .next t → stepInstance k cores = .next (cores.set k t)) ∧
    ∀ cores' : List State, stepInstance k cores = .next cores' →
      cores'.length = cores.length ∧ (∀ j, j ≠ k → cores'[j]? = cores[j]?) ∧
      (∃ s t : State, cores[k]? = some s ∧ step s = .next t ∧ cores'[k]? = some t) ∧
      ∀ others : List State, others[k]? = cores[k]? →
        ∃ others', stepInstance k others = .next others' ∧ others'[k]? = cores'[k]?
end

