-- ==== Sys2Proof/Laws/Bytes.lean ====
section
/-! SUPPORT. Laws/Bytes.lean: packing and unpacking are inverse, and what a buffer write leaves at each offset. -/

namespace Sys2Proof.Machine

theorem le32_toNat (b0 b1 b2 b3 : Byte) :
    (le32 b0 b1 b2 b3).toNat = b0.toNat + 2 ^ 8 * b1.toNat + 2 ^ 16 * b2.toNat + 2 ^ 24 * b3.toNat := by
  simp only [le32, BitVec.toNat_append]
  have h0 := b0.isLt
  have h1 := b1.isLt
  have h2 := b2.isLt
  rw [← Nat.shiftLeft_add_eq_or_of_lt (by omega), ← Nat.shiftLeft_add_eq_or_of_lt (by omega),
    ← Nat.shiftLeft_add_eq_or_of_lt (by omega)]
  simp only [Nat.shiftLeft_eq]
  omega

theorem extractLsb'_toNat_byte (v : Word32) (k : Nat) : (v.extractLsb' k 8).toNat = v.toNat / 2 ^ k % 2 ^ 8 := by
  simp [BitVec.extractLsb'_toNat, Nat.shiftRight_eq_div_pow]

/-- Unpacking a packed word gives it back (R10, R62). -/
@[simp] theorem le32_bytesLE32 (v : Word32) :
    le32 (v.extractLsb' 0 8) (v.extractLsb' 8 8) (v.extractLsb' 16 8) (v.extractLsb' 24 8) = v := by
  apply BitVec.eq_of_toNat_eq
  rw [le32_toNat]
  simp only [extractLsb'_toNat_byte]
  have := v.isLt
  omega

theorem extract_le32 (b0 b1 b2 b3 b : Byte) (k : Nat) (h : (le32 b0 b1 b2 b3).toNat / 2 ^ k % 2 ^ 8 = b.toNat) :
    (le32 b0 b1 b2 b3).extractLsb' k 8 = b := by
  apply BitVec.eq_of_toNat_eq
  rw [extractLsb'_toNat_byte, h]

/-! Packing an unpacked word gives its bytes back (R10). -/

@[simp] theorem le32_byte0 (b0 b1 b2 b3 : Byte) : (le32 b0 b1 b2 b3).extractLsb' 0 8 = b0 := by
  apply extract_le32; have := b0.isLt; rw [le32_toNat]; omega

@[simp] theorem le32_byte1 (b0 b1 b2 b3 : Byte) : (le32 b0 b1 b2 b3).extractLsb' 8 8 = b1 := by
  apply extract_le32; have := b0.isLt; have := b1.isLt; rw [le32_toNat]; omega

@[simp] theorem le32_byte2 (b0 b1 b2 b3 : Byte) : (le32 b0 b1 b2 b3).extractLsb' 16 8 = b2 := by
  apply extract_le32; have := b0.isLt; have := b1.isLt; have := b2.isLt; rw [le32_toNat]; omega

@[simp] theorem le32_byte3 (b0 b1 b2 b3 : Byte) : (le32 b0 b1 b2 b3).extractLsb' 24 8 = b3 := by
  apply extract_le32; have := b0.isLt; have := b1.isLt; have := b2.isLt; have := b3.isLt; rw [le32_toNat]; omega

theorem bytesLE32_le32 (b0 b1 b2 b3 : Byte) : bytesLE32 (le32 b0 b1 b2 b3) = #v[b0, b1, b2, b3] := by
  simp only [bytesLE32, le32_byte0, le32_byte1, le32_byte2, le32_byte3]

@[simp] theorem bytesLE32_toList (v : Word32) :
    (bytesLE32 v).toList = [v.extractLsb' 0 8, v.extractLsb' 8 8, v.extractLsb' 16 8, v.extractLsb' 24 8] := rfl

/-- Every byte after an overwrite: the new one where there is one, else the old one (R11). -/
theorem getElem?_overwrite (bytes : List Byte) (off : Nat) (v : List Byte) (k : Nat) (h : k < bytes.length) :
    (overwrite bytes off v)[k]? = if off ≤ k ∧ k < off + v.length then v[k - off]? else bytes[k]? := by
  fun_induction overwrite bytes off v generalizing k with
  | case1 => simp at h
  | case2 b bs =>
    have : ¬ (0 ≤ k ∧ k < 0 + ([] : List Byte).length) := by simp
    rw [if_neg this]
  | case3 b bs v vs ih =>
    cases k with
    | zero => simp
    | succ k =>
      have := ih k (by simpa using h)
      simp only [Nat.zero_le, Nat.zero_add, true_and, Nat.sub_zero, List.length_cons, List.getElem?_cons_succ,
        Nat.add_lt_add_iff_right] at this ⊢
      exact this
  | case4 b bs off v ih =>
    cases k with
    | zero => simp
    | succ k =>
      have hk := ih k (by simpa using h)
      rw [List.getElem?_cons_succ, hk]
      by_cases hc : off ≤ k ∧ k < off + v.length
      · rw [if_pos hc, if_pos (by omega)]
        congr 1
        omega
      · rw [if_neg hc, if_neg (by omega), List.getElem?_cons_succ]

theorem overwrite_whole (bytes v : List Byte) (h : v.length = bytes.length) : overwrite bytes 0 v = v := by
  induction bytes generalizing v with
  | nil => simp [List.length_eq_zero_iff.mp h, overwrite]
  | cons b bs ih =>
    cases v with
    | nil => simp at h
    | cons w ws => simp only [overwrite]; rw [ih ws (by simpa using h)]

/-- A receive of 31 bytes replaces the whole of `cbw` (R69, R132). -/
theorem receiveInto_whole (cbw u : Buf 31) (data : List Byte) (h : u.toList = data) :
    receiveInto cbw 31#32 data = u := by
  subst h
  have hu : u.toList.length = 31 := by simp
  have : u.toList.take (rxDataLen 31#32) = u.toList := by
    rw [List.take_of_length_le]
    rw [hu]; decide
  apply Vector.toList_inj.mp
  simp only [receiveInto, this, memWrite]
  simpa [Vector.toList] using overwrite_whole cbw.toList u.toList (by simp)

/-- What a receive leaves at every offset: its bytes, and past them the old ones (R69). -/
theorem getElem_receiveInto (cbw : Buf 31) (n : Word32) (data : List Byte) (hl : data.length = rxDataLen n) (k : Nat)
    (h : k < 31) : (receiveInto cbw n data)[k] = if hd : k < data.length then data[k] else cbw[k] := by
  have hk : k < cbw.toList.length := by simpa using h
  have e := getElem?_overwrite cbw.toList 0 data k hk
  have ht : data.take (rxDataLen n) = data := List.take_of_length_le (by omega)
  have lhs : (receiveInto cbw n data)[k] = (overwrite cbw.toList 0 data)[k]'(by rw [length_overwrite]; exact hk) := by
    simp only [receiveInto, ht, memWrite]
    rfl
  rw [lhs]
  apply Option.some.inj
  rw [← List.getElem?_eq_getElem, e]
  by_cases hd : k < data.length
  · simp [hd]
  · simp [hd, h]

end Sys2Proof.Machine
end

