-- ==== Sys2Proof/Laws/Codec.lean ====
section
/-! SUPPORT. Laws/Codec.lean: the CSW and the format-capacities payload, byte by byte. -/

namespace Sys2Proof.Machine

theorem buf4_eq (t : Buf 4) : t = #v[t[0], t[1], t[2], t[3]] := by
  apply Vector.ext
  intro k hk
  match k, hk with
  | 0, _ => rfl
  | 1, _ => rfl
  | 2, _ => rfl
  | 3, _ => rfl

/-- The 13 bytes of a CSW (R96). -/
theorem encodeCSW_eq (t : Buf 4) (r : Word32) (s : Byte) :
    encodeCSW t r s =
      #v[0x55#8, 0x53#8, 0x42#8, 0x53#8, t[0], t[1], t[2], t[3],
        r.extractLsb' 0 8, r.extractLsb' 8 8, r.extractLsb' 16 8, r.extractLsb' 24 8, s] := by
  conv_lhs => rw [buf4_eq t]
  rfl

/-- The 12 bytes of the format-capacities payload (R98). -/
theorem fcPayload_eq (bc bs : Word32) :
    fcPayload bc bs =
      #v[0x00#8, 0x00#8, 0x00#8, 0x08#8,
        bc.extractLsb' 24 8, bc.extractLsb' 16 8, bc.extractLsb' 8 8, bc.extractLsb' 0 8, Config.fmtDescByte,
        bs.extractLsb' 16 8, bs.extractLsb' 8 8, bs.extractLsb' 0 8] := rfl

/-- The tag a CSW echoes is the one the fields hold (R65, R134). -/
theorem fields_tagB (buf : Buf 31) : (fields buf).tagB = read4 buf 4 := rfl

theorem meaningful_iff (f : Fields) :
    meaningful f = true ↔ f.lun = 0x00#8 ∧ 1 ≤ f.cbl.toNat ∧ f.cbl.toNat ≤ 16 := by
  simp [meaningful, Config.maxLun, and_assoc]

/-- `INQ_LEN < 2^32` (R7), by the form of `inqData` (log entry 2). -/
theorem inqLen_lt : Config.inqLen < 2 ^ 32 := by
  have : Config.inqLen ≤ 0xFFFFFFFF := by
    simp only [Config.inqLen, Config.inqData, List.length_take]
    exact Nat.min_le_left _ _
  omega

end Sys2Proof.Machine
end

