-- ==== Sys2Proof/Laws/State.lean ====
section
/-! SUPPORT. Laws/State.lean: what each named operation over the state does to each field, one lemma per field. -/

namespace Sys2Proof.Machine

variable (s : State)

/-! ### `State.goto` -/

@[simp] theorem State.goto_phase (p : Phase) : (s.goto p).phase = p := rfl
@[simp] theorem State.goto_cbw (p : Phase) : (s.goto p).cbw = s.cbw := rfl
@[simp] theorem State.goto_csw (p : Phase) : (s.goto p).csw = s.csw := rfl
@[simp] theorem State.goto_fcBuf (p : Phase) : (s.goto p).fcBuf = s.fcBuf := rfl
@[simp] theorem State.goto_resLatch (p : Phase) : (s.goto p).resLatch = s.resLatch := rfl
@[simp] theorem State.goto_stsLatch (p : Phase) : (s.goto p).stsLatch = s.stsLatch := rfl
@[simp] theorem State.goto_outstanding (p : Phase) : (s.goto p).outstanding = s.outstanding := rfl
@[simp] theorem State.goto_abandoned (p : Phase) : (s.goto p).abandoned = s.abandoned := rfl
@[simp] theorem State.goto_started (p : Phase) : (s.goto p).started = s.started := rfl
@[simp] theorem State.goto_inbox (p : Phase) : (s.goto p).inbox = s.inbox := rfl
@[simp] theorem State.goto_out (p : Phase) : (s.goto p).out = s.out := rfl
@[simp] theorem State.goto_cause (p : Phase) : (s.goto p).cause = s.cause := rfl
@[simp] theorem State.goto_extension (p : Phase) : (s.goto p).extension = s.extension := rfl
@[simp] theorem State.goto_race (p : Phase) : (s.goto p).race = s.race := rfl
@[simp] theorem State.goto_freeCtr (p : Phase) : (s.goto p).freeCtr = s.freeCtr := rfl

/-! ### `State.emit` -/

@[simp] theorem State.emit_phase (r : Request) : (s.emit r).phase = s.phase := rfl
@[simp] theorem State.emit_cbw (r : Request) : (s.emit r).cbw = s.cbw := rfl
@[simp] theorem State.emit_csw (r : Request) : (s.emit r).csw = s.csw := rfl
@[simp] theorem State.emit_fcBuf (r : Request) : (s.emit r).fcBuf = s.fcBuf := rfl
@[simp] theorem State.emit_resLatch (r : Request) : (s.emit r).resLatch = s.resLatch := rfl
@[simp] theorem State.emit_stsLatch (r : Request) : (s.emit r).stsLatch = s.stsLatch := rfl
@[simp] theorem State.emit_abandoned (r : Request) : (s.emit r).abandoned = s.abandoned := rfl
@[simp] theorem State.emit_started (r : Request) : (s.emit r).started = s.started := rfl
@[simp] theorem State.emit_inbox (r : Request) : (s.emit r).inbox = s.inbox := rfl
@[simp] theorem State.emit_out (r : Request) : (s.emit r).out = s.out ++ [r] := rfl
@[simp] theorem State.emit_cause (r : Request) : (s.emit r).cause = s.cause := rfl
@[simp] theorem State.emit_extension (r : Request) : (s.emit r).extension = s.extension := rfl
@[simp] theorem State.emit_race (r : Request) : (s.emit r).race = s.race := rfl
@[simp] theorem State.emit_freeCtr (r : Request) : (s.emit r).freeCtr = s.freeCtr := rfl

/-! ### `State.retire` -/

@[simp] theorem State.retire_phase : (s.retire).phase = s.phase := rfl
@[simp] theorem State.retire_cbw : (s.retire).cbw = s.cbw := rfl
@[simp] theorem State.retire_csw : (s.retire).csw = s.csw := rfl
@[simp] theorem State.retire_fcBuf : (s.retire).fcBuf = s.fcBuf := rfl
@[simp] theorem State.retire_resLatch : (s.retire).resLatch = s.resLatch := rfl
@[simp] theorem State.retire_stsLatch : (s.retire).stsLatch = s.stsLatch := rfl
@[simp] theorem State.retire_outstanding : (s.retire).outstanding = none := rfl
@[simp] theorem State.retire_abandoned : (s.retire).abandoned = s.abandoned := rfl
@[simp] theorem State.retire_started : (s.retire).started = s.started := rfl
@[simp] theorem State.retire_inbox : (s.retire).inbox = s.inbox := rfl
@[simp] theorem State.retire_out : (s.retire).out = s.out := rfl
@[simp] theorem State.retire_cause : (s.retire).cause = s.cause := rfl
@[simp] theorem State.retire_extension : (s.retire).extension = s.extension := rfl
@[simp] theorem State.retire_race : (s.retire).race = s.race := rfl
@[simp] theorem State.retire_freeCtr : (s.retire).freeCtr = s.freeCtr := rfl

/-! ### `State.abandon` -/

@[simp] theorem State.abandon_phase : (s.abandon).phase = s.phase := rfl
@[simp] theorem State.abandon_cbw : (s.abandon).cbw = s.cbw := rfl
@[simp] theorem State.abandon_csw : (s.abandon).csw = s.csw := rfl
@[simp] theorem State.abandon_fcBuf : (s.abandon).fcBuf = s.fcBuf := rfl
@[simp] theorem State.abandon_resLatch : (s.abandon).resLatch = s.resLatch := rfl
@[simp] theorem State.abandon_stsLatch : (s.abandon).stsLatch = s.stsLatch := rfl
@[simp] theorem State.abandon_outstanding : (s.abandon).outstanding = none := rfl
@[simp] theorem State.abandon_started : (s.abandon).started = s.started := rfl
@[simp] theorem State.abandon_inbox : (s.abandon).inbox = s.inbox := rfl
@[simp] theorem State.abandon_out : (s.abandon).out = s.out := rfl
@[simp] theorem State.abandon_cause : (s.abandon).cause = s.cause := rfl
@[simp] theorem State.abandon_extension : (s.abandon).extension = s.extension := rfl
@[simp] theorem State.abandon_race : (s.abandon).race = s.race := rfl
@[simp] theorem State.abandon_freeCtr : (s.abandon).freeCtr = s.freeCtr := rfl

/-! ### `State.retireAbandoned` -/

@[simp] theorem State.retireAbandoned_phase : (s.retireAbandoned).phase = s.phase := rfl
@[simp] theorem State.retireAbandoned_cbw : (s.retireAbandoned).cbw = s.cbw := rfl
@[simp] theorem State.retireAbandoned_csw : (s.retireAbandoned).csw = s.csw := rfl
@[simp] theorem State.retireAbandoned_fcBuf : (s.retireAbandoned).fcBuf = s.fcBuf := rfl
@[simp] theorem State.retireAbandoned_resLatch : (s.retireAbandoned).resLatch = s.resLatch := rfl
@[simp] theorem State.retireAbandoned_stsLatch : (s.retireAbandoned).stsLatch = s.stsLatch := rfl
@[simp] theorem State.retireAbandoned_outstanding : (s.retireAbandoned).outstanding = s.outstanding := rfl
@[simp] theorem State.retireAbandoned_abandoned : (s.retireAbandoned).abandoned = s.abandoned.tail := rfl
@[simp] theorem State.retireAbandoned_started : (s.retireAbandoned).started = s.started := rfl
@[simp] theorem State.retireAbandoned_inbox : (s.retireAbandoned).inbox = s.inbox := rfl
@[simp] theorem State.retireAbandoned_out : (s.retireAbandoned).out = s.out := rfl
@[simp] theorem State.retireAbandoned_cause : (s.retireAbandoned).cause = s.cause := rfl
@[simp] theorem State.retireAbandoned_extension : (s.retireAbandoned).extension = s.extension := rfl
@[simp] theorem State.retireAbandoned_race : (s.retireAbandoned).race = s.race := rfl
@[simp] theorem State.retireAbandoned_freeCtr : (s.retireAbandoned).freeCtr = s.freeCtr := rfl

/-! ### `State.latch` -/

@[simp] theorem State.latch_phase (residue : Word32) (status : Byte) : (s.latch residue status).phase = s.phase := rfl
@[simp] theorem State.latch_cbw (residue : Word32) (status : Byte) : (s.latch residue status).cbw = s.cbw := rfl
@[simp] theorem State.latch_csw (residue : Word32) (status : Byte) : (s.latch residue status).csw = s.csw := rfl
@[simp] theorem State.latch_fcBuf (residue : Word32) (status : Byte) : (s.latch residue status).fcBuf = s.fcBuf := rfl
@[simp] theorem State.latch_resLatch (residue : Word32) (status : Byte) : (s.latch residue status).resLatch = residue := rfl
@[simp] theorem State.latch_stsLatch (residue : Word32) (status : Byte) : (s.latch residue status).stsLatch = status := rfl
@[simp] theorem State.latch_outstanding (residue : Word32) (status : Byte) : (s.latch residue status).outstanding = s.outstanding := rfl
@[simp] theorem State.latch_abandoned (residue : Word32) (status : Byte) : (s.latch residue status).abandoned = s.abandoned := rfl
@[simp] theorem State.latch_started (residue : Word32) (status : Byte) : (s.latch residue status).started = s.started := rfl
@[simp] theorem State.latch_inbox (residue : Word32) (status : Byte) : (s.latch residue status).inbox = s.inbox := rfl
@[simp] theorem State.latch_out (residue : Word32) (status : Byte) : (s.latch residue status).out = s.out := rfl
@[simp] theorem State.latch_cause (residue : Word32) (status : Byte) : (s.latch residue status).cause = s.cause := rfl
@[simp] theorem State.latch_extension (residue : Word32) (status : Byte) : (s.latch residue status).extension = s.extension := rfl
@[simp] theorem State.latch_race (residue : Word32) (status : Byte) : (s.latch residue status).race = s.race := rfl
@[simp] theorem State.latch_freeCtr (residue : Word32) (status : Byte) : (s.latch residue status).freeCtr = s.freeCtr := rfl

/-! ### `State.writeCsw` -/

@[simp] theorem State.writeCsw_phase (v : Buf 13) : (s.writeCsw v).phase = s.phase := rfl
@[simp] theorem State.writeCsw_cbw (v : Buf 13) : (s.writeCsw v).cbw = s.cbw := rfl
@[simp] theorem State.writeCsw_csw (v : Buf 13) : (s.writeCsw v).csw = v := rfl
@[simp] theorem State.writeCsw_fcBuf (v : Buf 13) : (s.writeCsw v).fcBuf = s.fcBuf := rfl
@[simp] theorem State.writeCsw_resLatch (v : Buf 13) : (s.writeCsw v).resLatch = s.resLatch := rfl
@[simp] theorem State.writeCsw_stsLatch (v : Buf 13) : (s.writeCsw v).stsLatch = s.stsLatch := rfl
@[simp] theorem State.writeCsw_outstanding (v : Buf 13) : (s.writeCsw v).outstanding = s.outstanding := rfl
@[simp] theorem State.writeCsw_abandoned (v : Buf 13) : (s.writeCsw v).abandoned = s.abandoned := rfl
@[simp] theorem State.writeCsw_started (v : Buf 13) : (s.writeCsw v).started = s.started := rfl
@[simp] theorem State.writeCsw_inbox (v : Buf 13) : (s.writeCsw v).inbox = s.inbox := rfl
@[simp] theorem State.writeCsw_out (v : Buf 13) : (s.writeCsw v).out = s.out := rfl
@[simp] theorem State.writeCsw_cause (v : Buf 13) : (s.writeCsw v).cause = s.cause := rfl
@[simp] theorem State.writeCsw_extension (v : Buf 13) : (s.writeCsw v).extension = s.extension := rfl
@[simp] theorem State.writeCsw_race (v : Buf 13) : (s.writeCsw v).race = (s.race || s.abandoned.contains .csw) := rfl
@[simp] theorem State.writeCsw_freeCtr (v : Buf 13) : (s.writeCsw v).freeCtr = s.freeCtr := rfl

/-! ### `State.writeFcBuf` -/

@[simp] theorem State.writeFcBuf_phase (v : Buf 12) : (s.writeFcBuf v).phase = s.phase := rfl
@[simp] theorem State.writeFcBuf_cbw (v : Buf 12) : (s.writeFcBuf v).cbw = s.cbw := rfl
@[simp] theorem State.writeFcBuf_csw (v : Buf 12) : (s.writeFcBuf v).csw = s.csw := rfl
@[simp] theorem State.writeFcBuf_fcBuf (v : Buf 12) : (s.writeFcBuf v).fcBuf = v := rfl
@[simp] theorem State.writeFcBuf_resLatch (v : Buf 12) : (s.writeFcBuf v).resLatch = s.resLatch := rfl
@[simp] theorem State.writeFcBuf_stsLatch (v : Buf 12) : (s.writeFcBuf v).stsLatch = s.stsLatch := rfl
@[simp] theorem State.writeFcBuf_outstanding (v : Buf 12) : (s.writeFcBuf v).outstanding = s.outstanding := rfl
@[simp] theorem State.writeFcBuf_abandoned (v : Buf 12) : (s.writeFcBuf v).abandoned = s.abandoned := rfl
@[simp] theorem State.writeFcBuf_started (v : Buf 12) : (s.writeFcBuf v).started = s.started := rfl
@[simp] theorem State.writeFcBuf_inbox (v : Buf 12) : (s.writeFcBuf v).inbox = s.inbox := rfl
@[simp] theorem State.writeFcBuf_out (v : Buf 12) : (s.writeFcBuf v).out = s.out := rfl
@[simp] theorem State.writeFcBuf_cause (v : Buf 12) : (s.writeFcBuf v).cause = s.cause := rfl
@[simp] theorem State.writeFcBuf_extension (v : Buf 12) : (s.writeFcBuf v).extension = s.extension := rfl
@[simp] theorem State.writeFcBuf_race (v : Buf 12) : (s.writeFcBuf v).race = (s.race || s.abandoned.contains .fcBuf) := rfl
@[simp] theorem State.writeFcBuf_freeCtr (v : Buf 12) : (s.writeFcBuf v).freeCtr = s.freeCtr := rfl

/-! ### `State.receive` -/

@[simp] theorem State.receive_phase (n : Word32) (data : List Byte) : (s.receive n data).phase = s.phase := rfl
@[simp] theorem State.receive_cbw (n : Word32) (data : List Byte) : (s.receive n data).cbw = receiveInto s.cbw n data := rfl
@[simp] theorem State.receive_csw (n : Word32) (data : List Byte) : (s.receive n data).csw = s.csw := rfl
@[simp] theorem State.receive_fcBuf (n : Word32) (data : List Byte) : (s.receive n data).fcBuf = s.fcBuf := rfl
@[simp] theorem State.receive_resLatch (n : Word32) (data : List Byte) : (s.receive n data).resLatch = s.resLatch := rfl
@[simp] theorem State.receive_stsLatch (n : Word32) (data : List Byte) : (s.receive n data).stsLatch = s.stsLatch := rfl
@[simp] theorem State.receive_outstanding (n : Word32) (data : List Byte) : (s.receive n data).outstanding = s.outstanding := rfl
@[simp] theorem State.receive_abandoned (n : Word32) (data : List Byte) : (s.receive n data).abandoned = s.abandoned := rfl
@[simp] theorem State.receive_started (n : Word32) (data : List Byte) : (s.receive n data).started = s.started := rfl
@[simp] theorem State.receive_inbox (n : Word32) (data : List Byte) : (s.receive n data).inbox = s.inbox := rfl
@[simp] theorem State.receive_out (n : Word32) (data : List Byte) : (s.receive n data).out = s.out := rfl
@[simp] theorem State.receive_cause (n : Word32) (data : List Byte) : (s.receive n data).cause = s.cause := rfl
@[simp] theorem State.receive_extension (n : Word32) (data : List Byte) : (s.receive n data).extension = s.extension := rfl
@[simp] theorem State.receive_race (n : Word32) (data : List Byte) : (s.receive n data).race = s.race := rfl
@[simp] theorem State.receive_freeCtr (n : Word32) (data : List Byte) : (s.receive n data).freeCtr = s.freeCtr := rfl

/-! ### `State.report` -/

@[simp] theorem State.report_phase (c : Cause) : (s.report c).phase = s.phase := rfl
@[simp] theorem State.report_cbw (c : Cause) : (s.report c).cbw = s.cbw := rfl
@[simp] theorem State.report_csw (c : Cause) : (s.report c).csw = s.csw := rfl
@[simp] theorem State.report_fcBuf (c : Cause) : (s.report c).fcBuf = s.fcBuf := rfl
@[simp] theorem State.report_resLatch (c : Cause) : (s.report c).resLatch = s.resLatch := rfl
@[simp] theorem State.report_stsLatch (c : Cause) : (s.report c).stsLatch = s.stsLatch := rfl
@[simp] theorem State.report_outstanding (c : Cause) : (s.report c).outstanding = s.outstanding := rfl
@[simp] theorem State.report_abandoned (c : Cause) : (s.report c).abandoned = s.abandoned := rfl
@[simp] theorem State.report_started (c : Cause) : (s.report c).started = s.started := rfl
@[simp] theorem State.report_inbox (c : Cause) : (s.report c).inbox = s.inbox := rfl
@[simp] theorem State.report_out (c : Cause) : (s.report c).out = s.out := rfl
@[simp] theorem State.report_cause (c : Cause) : (s.report c).cause = some c := rfl
@[simp] theorem State.report_extension (c : Cause) : (s.report c).extension = s.extension := rfl
@[simp] theorem State.report_race (c : Cause) : (s.report c).race = s.race := rfl
@[simp] theorem State.report_freeCtr (c : Cause) : (s.report c).freeCtr = s.freeCtr := rfl

/-! ### `State.markExtension` -/

@[simp] theorem State.markExtension_phase : (s.markExtension).phase = s.phase := rfl
@[simp] theorem State.markExtension_cbw : (s.markExtension).cbw = s.cbw := rfl
@[simp] theorem State.markExtension_csw : (s.markExtension).csw = s.csw := rfl
@[simp] theorem State.markExtension_fcBuf : (s.markExtension).fcBuf = s.fcBuf := rfl
@[simp] theorem State.markExtension_resLatch : (s.markExtension).resLatch = s.resLatch := rfl
@[simp] theorem State.markExtension_stsLatch : (s.markExtension).stsLatch = s.stsLatch := rfl
@[simp] theorem State.markExtension_outstanding : (s.markExtension).outstanding = s.outstanding := rfl
@[simp] theorem State.markExtension_abandoned : (s.markExtension).abandoned = s.abandoned := rfl
@[simp] theorem State.markExtension_started : (s.markExtension).started = s.started := rfl
@[simp] theorem State.markExtension_inbox : (s.markExtension).inbox = s.inbox := rfl
@[simp] theorem State.markExtension_out : (s.markExtension).out = s.out := rfl
@[simp] theorem State.markExtension_cause : (s.markExtension).cause = s.cause := rfl
@[simp] theorem State.markExtension_extension : (s.markExtension).extension = true := rfl
@[simp] theorem State.markExtension_race : (s.markExtension).race = s.race := rfl
@[simp] theorem State.markExtension_freeCtr : (s.markExtension).freeCtr = s.freeCtr := rfl

/-! ### `State.loseContents` -/

@[simp] theorem State.loseContents_phase : (s.loseContents).phase = s.phase := rfl
@[simp] theorem State.loseContents_cbw : (s.loseContents).cbw = Config.porCbw s.freeCtr := rfl
@[simp] theorem State.loseContents_csw : (s.loseContents).csw = Config.porCsw s.freeCtr := rfl
@[simp] theorem State.loseContents_fcBuf : (s.loseContents).fcBuf = Config.porFcBuf s.freeCtr := rfl
@[simp] theorem State.loseContents_resLatch : (s.loseContents).resLatch = Config.porResLatch s.freeCtr := rfl
@[simp] theorem State.loseContents_stsLatch : (s.loseContents).stsLatch = Config.porStsLatch s.freeCtr := rfl
@[simp] theorem State.loseContents_outstanding : (s.loseContents).outstanding = s.outstanding := rfl
@[simp] theorem State.loseContents_abandoned : (s.loseContents).abandoned = s.abandoned := rfl
@[simp] theorem State.loseContents_started : (s.loseContents).started = true := rfl
@[simp] theorem State.loseContents_inbox : (s.loseContents).inbox = s.inbox := rfl
@[simp] theorem State.loseContents_out : (s.loseContents).out = s.out := rfl
@[simp] theorem State.loseContents_cause : (s.loseContents).cause = s.cause := rfl
@[simp] theorem State.loseContents_extension : (s.loseContents).extension = s.extension := rfl
@[simp] theorem State.loseContents_race : (s.loseContents).race = s.race := rfl
@[simp] theorem State.loseContents_freeCtr : (s.loseContents).freeCtr = s.freeCtr + 1 := rfl

/-! ### `State.begin` -/

@[simp] theorem State.begin_phase : (s.begin).phase = s.phase := rfl
@[simp] theorem State.begin_cbw : (s.begin).cbw = s.cbw := rfl
@[simp] theorem State.begin_csw : (s.begin).csw = s.csw := rfl
@[simp] theorem State.begin_fcBuf : (s.begin).fcBuf = s.fcBuf := rfl
@[simp] theorem State.begin_resLatch : (s.begin).resLatch = s.resLatch := rfl
@[simp] theorem State.begin_stsLatch : (s.begin).stsLatch = s.stsLatch := rfl
@[simp] theorem State.begin_outstanding : (s.begin).outstanding = s.outstanding := rfl
@[simp] theorem State.begin_abandoned : (s.begin).abandoned = s.abandoned := rfl
@[simp] theorem State.begin_started : (s.begin).started = s.started := rfl
@[simp] theorem State.begin_inbox : (s.begin).inbox = s.inbox := rfl
@[simp] theorem State.begin_out : (s.begin).out = [] := rfl
@[simp] theorem State.begin_cause : (s.begin).cause = none := rfl
@[simp] theorem State.begin_extension : (s.begin).extension = s.extension := rfl
@[simp] theorem State.begin_race : (s.begin).race = s.race := rfl
@[simp] theorem State.begin_freeCtr : (s.begin).freeCtr = s.freeCtr := rfl

/-! ### `State.setInbox` -/

@[simp] theorem State.setInbox_phase (frames : List Frame) : (s.setInbox frames).phase = s.phase := rfl
@[simp] theorem State.setInbox_cbw (frames : List Frame) : (s.setInbox frames).cbw = s.cbw := rfl
@[simp] theorem State.setInbox_csw (frames : List Frame) : (s.setInbox frames).csw = s.csw := rfl
@[simp] theorem State.setInbox_fcBuf (frames : List Frame) : (s.setInbox frames).fcBuf = s.fcBuf := rfl
@[simp] theorem State.setInbox_resLatch (frames : List Frame) : (s.setInbox frames).resLatch = s.resLatch := rfl
@[simp] theorem State.setInbox_stsLatch (frames : List Frame) : (s.setInbox frames).stsLatch = s.stsLatch := rfl
@[simp] theorem State.setInbox_outstanding (frames : List Frame) : (s.setInbox frames).outstanding = s.outstanding := rfl
@[simp] theorem State.setInbox_abandoned (frames : List Frame) : (s.setInbox frames).abandoned = s.abandoned := rfl
@[simp] theorem State.setInbox_started (frames : List Frame) : (s.setInbox frames).started = s.started := rfl
@[simp] theorem State.setInbox_inbox (frames : List Frame) : (s.setInbox frames).inbox = frames := rfl
@[simp] theorem State.setInbox_out (frames : List Frame) : (s.setInbox frames).out = s.out := rfl
@[simp] theorem State.setInbox_cause (frames : List Frame) : (s.setInbox frames).cause = s.cause := rfl
@[simp] theorem State.setInbox_extension (frames : List Frame) : (s.setInbox frames).extension = s.extension := rfl
@[simp] theorem State.setInbox_race (frames : List Frame) : (s.setInbox frames).race = s.race := rfl
@[simp] theorem State.setInbox_freeCtr (frames : List Frame) : (s.setInbox frames).freeCtr = s.freeCtr := rfl

/-! ### The fields whose new value depends on a case -/

@[simp] theorem State.emit_startReceive_outstanding (buf : Space) (m : Nat) :
    (s.emit (.startReceive buf m)).outstanding = some (.receive buf m) := rfl
@[simp] theorem State.emit_startTransmit_outstanding (src : Space) (len : Nat) :
    (s.emit (.startTransmit src len)).outstanding = some (.transmit src len) := rfl
@[simp] theorem State.emit_stall_outstanding (e : Endpoint) :
    (s.emit (.stall e)).outstanding = s.outstanding := rfl
@[simp] theorem State.emit_ctrlReply_outstanding (bytes : List Byte) :
    (s.emit (.ctrlReply bytes)).outstanding = s.outstanding := rfl
theorem State.abandon_abandoned_transmit {src : Space} {len : Nat} (h : s.outstanding = some (.transmit src len)) :
    s.abandon.abandoned = s.abandoned ++ [src] := by simp [State.abandon, h]

end Sys2Proof.Machine
end

