-- ==== Sys2Proof/Laws/Commands.lean ====
section
/-! SUPPORT. Laws/Commands.lean: one lemma per shared operation of the router and the commands, which says everything
it can do. -/

namespace Sys2Proof.Machine

/-- The residue and what is sent make up the host's length (R195, R196). -/
theorem residueOf_add_txLength (dtl : Word32) (plen : Nat) :
    (residueOf dtl plen).toNat + txLength dtl plen = dtl.toNat := by
  have := dtl.isLt
  simp only [residueOf, txLength, BitVec.toNat_ofNat]
  omega

theorem residueOf_toNat (dtl : Word32) (plen : Nat) :
    (residueOf dtl plen).toNat = dtl.toNat - min dtl.toNat plen := by
  have := residueOf_add_txLength dtl plen
  simp only [txLength] at this
  omega

theorem txLength_le (dtl : Word32) (plen : Nat) : txLength dtl plen ≤ plen := Nat.min_le_right _ _

/-- A rejected command takes the `Fail` plan, in either direction (R194, R198). -/
theorem answer_rejected (s : State) (f : Fields) (c : Cause) :
    s.answer f (.rejected c) = { s with
      phase := .sendingStatus
      resLatch := f.dtl
      stsLatch := statusFailed
      csw := encodeCSW f.tagB f.dtl statusFailed
      out := s.out ++ [.startTransmit .csw Config.cswLen]
      outstanding := some (.transmit .csw Config.cswLen)
      cause := some c
      race := s.race || s.abandoned.contains .csw } := rfl

/-- An accepted command, device to host, takes the `In` plan (R194 to R197). -/
theorem answer_accepted_in (s : State) (f : Fields) (src : Space) (plen : Nat) (h : f.dirIn = true) :
    s.answer f (.accepted src plen) = { s with
      phase := .dataIn
      resLatch := residueOf f.dtl plen
      stsLatch := statusPassed
      out := s.out ++ [.startTransmit src (txLength f.dtl plen)]
      outstanding := some (.transmit src (txLength f.dtl plen)) } := by
  simp only [State.answer, route, h]
  rfl

/-- An accepted command, host to device, takes the `Out` plan (R194, R199). -/
theorem answer_accepted_out (s : State) (f : Fields) (src : Space) (plen : Nat) (h : f.dirIn = false) :
    s.answer f (.accepted src plen) = { s with phase := .dataOut, extension := true } := by
  simp only [State.answer, route, h]
  rfl

/-- Routing and performing never touch `cbw` (R32). -/
@[simp] theorem answer_cbw (s : State) (f : Fields) (v : Verdict) : (s.answer f v).cbw = s.cbw := by
  cases v with
  | rejected c => rfl
  | accepted src plen => cases h : f.dirIn <;> simp [State.answer, route, h, State.perform]

/-- Nor `fcBuf` (R34). -/
@[simp] theorem answer_fcBuf (s : State) (f : Fields) (v : Verdict) : (s.answer f v).fcBuf = s.fcBuf := by
  cases v with
  | rejected c => rfl
  | accepted src plen => cases h : f.dirIn <;> simp [State.answer, route, h, State.perform]

/-- Nor the list of abandoned transmits (R43). -/
@[simp] theorem answer_abandoned (s : State) (f : Fields) (v : Verdict) : (s.answer f v).abandoned = s.abandoned := by
  cases v with
  | rejected c => rfl
  | accepted src plen => cases h : f.dirIn <;> simp [State.answer, route, h, State.perform]

/-- A rejection writes `csw`, so it marks a race where `csw` is listed as abandoned; an acceptance writes no source
(R276). -/
theorem answer_race (s : State) (f : Fields) (v : Verdict) :
    (s.answer f v).race = match v with
      | .rejected _ => s.race || s.abandoned.contains .csw
      | .accepted _ _ => s.race := by
  cases v with
  | rejected c => rfl
  | accepted src plen => cases h : f.dirIn <;> simp [State.answer, route, h, State.perform]

/-- A rejection is annotated with its cause, an acceptance with none (R241). -/
theorem answer_cause (s : State) (f : Fields) (v : Verdict) :
    (s.answer f v).cause = match v with
      | .rejected c => some c
      | .accepted _ _ => s.cause := by
  cases v with
  | rejected c => rfl
  | accepted src plen => cases h : f.dirIn <;> simp [State.answer, route, h, State.perform]

/-- The three outcomes of the dispatcher (R190 to R193). -/
theorem exec_decodeOpcode_cases {opc : Byte} {bc bs : Word32} {s t : State}
    (h : exec (decodeOpcode opc bc bs) s = .next t) :
    (opc = Config.opcInquiry ∧ t = s.answer (fields s.cbw) (.accepted .inqData Config.inqLen)) ∨
    (opc ≠ Config.opcInquiry ∧ opc = Config.opcRfc ∧
      t = (s.writeFcBuf (fcPayload bc bs)).answer (fields s.cbw) (.accepted .fcBuf Config.fcLen)) ∨
    (opc ≠ Config.opcInquiry ∧ opc ≠ Config.opcRfc ∧ t = s.answer (fields s.cbw) (.rejected (.cOpcode opc))) := by
  simp only [decodeOpcode] at h
  split at h
  · exact .inl ⟨‹_›, (Host.Outcome.next.inj h).symm⟩
  split at h
  · exact .inr (.inl ⟨‹_›, ‹_›, (Host.Outcome.next.inj h).symm⟩)
  · exact .inr (.inr ⟨‹_›, ‹_›, (Host.Outcome.next.inj h).symm⟩)

/-- The dispatcher runs the command its opcode map names (R190, R104). -/
theorem dispatchCommand_eq (opc : Byte) (bc bs : Word32) (s : State) :
    dispatchCommand opc bc bs s = exec (decodeOpcode opc bc bs) s := by
  simp only [dispatchCommand, decodeOpcode]
  split
  · rfl
  split <;> rfl

/-- Everything an envelope can do to the state the receive has left (R132): a framing error, a command dispatched by
its opcode, or a content failure. -/
theorem handleEnvelope_cases {n bc bs : Word32} {s t : State} (h : handleEnvelope n bc bs s = .next t) :
    (∃ c, decodeCBW n s.cbw = .error c ∧ t = s.raiseFraming c) ∨
    (decodeCBW n s.cbw = .ok (fields s.cbw) ∧ meaningful (fields s.cbw) = true ∧
      exec (decodeOpcode (fields s.cbw).opcode bc bs) s = .next t) ∨
    (decodeCBW n s.cbw = .ok (fields s.cbw) ∧ meaningful (fields s.cbw) = false ∧
      t = s.answer (fields s.cbw) (.rejected (failCause (fields s.cbw)))) := by
  unfold handleEnvelope at h
  split at h
  · rename_i c hc
    exact .inl ⟨c, hc, (Host.Outcome.next.inj h).symm⟩
  · rename_i f hf
    have hff : f = fields s.cbw := by
      unfold decodeCBW at hf
      split at hf
      · cases hf
      split at hf
      · cases hf
      · exact (Except.ok.inj hf).symm
    subst hff
    split at h
    · rename_i hm
      rw [dispatchCommand_eq] at h
      exact .inr (.inl ⟨hf, hm, h⟩)
    · rename_i hm
      exact .inr (.inr ⟨hf, by simpa using hm, (Host.Outcome.next.inj h).symm⟩)

/-- A valid envelope has 31 bytes and the signature (R171, R172). -/
theorem decodeCBW_ok {n : Word32} {buf : Buf 31} {f : Fields} (h : decodeCBW n buf = .ok f) :
    n.toNat = 31 ∧ signature buf = Config.magicA ∧ f = fields buf := by
  unfold decodeCBW at h
  split at h
  · cases h
  rename_i hn
  split at h
  · cases h
  rename_i hs
  exact ⟨by simpa [Config.cbwLen] using hn, by simpa using hs, (Except.ok.inj h).symm⟩

theorem decodeCBW_valid (buf : Buf 31) (h : signature buf = Config.magicA) :
    decodeCBW 31#32 buf = .ok (fields buf) := by
  simp [decodeCBW, h, Config.cbwLen]

/-- RX_COMPLETE handles its envelope in `Idle` and is ignored elsewhere (R132, R133). -/
theorem execRxComplete_idle {s : State} (h : s.phase = .idle) (n : Word32) (data : List Byte) (bc bs : Word32) :
    execRxComplete n data bc bs s = handleEnvelope n bc bs (s.retire.receive n data) := by
  simp [execRxComplete, h]

theorem execRxComplete_other {s : State} (h : s.phase ≠ .idle) (n : Word32) (data : List Byte) (bc bs : Word32) :
    execRxComplete n data bc bs s = .next s := by
  unfold execRxComplete
  cases hp : s.phase <;> simp_all

end Sys2Proof.Machine
end

