-- ==== Sys2Proof/Laws/Decode.lean ====
section
/-! SUPPORT. Laws/Decode.lean: everything the event decoder can answer. -/

namespace Sys2Proof

open Machine

/-- What the arguments of `RX_COMPLETE` decode to (R103; log entry 5). -/
theorem decodeRxArgs_cases {args rest : List Byte} {i : Instr} (h : decodeRxArgs args = .ok (i, rest)) :
    ∃ (n : Word32) (data : List Byte) (bc bs : Word32), i = .rxComplete n data bc bs ∧ data.length = rxDataLen n ∧
      args = (bytesLE32 n).toList ++ data ++ (bytesLE32 bc).toList ++ (bytesLE32 bs).toList ++ rest := by
  unfold decodeRxArgs at h
  split at h
  · rename_i n0 n1 n2 n3 tail
    dsimp only at h
    split at h
    · cases h
    rename_i hlen
    split at h
    · rename_i c0 c1 c2 c3 z0 z1 z2 z3 rest' hdrop
      simp only [Except.ok.injEq, Prod.mk.injEq] at h
      obtain ⟨rfl, rfl⟩ := h
      refine ⟨_, _, _, _, rfl, ?_, ?_⟩
      · rw [List.length_take]; omega
      · conv_lhs => rw [← List.take_append_drop (rxDataLen (le32 n0 n1 n2 n3)) tail, hdrop]
        simp
    · cases h
  · cases h

/-- The arguments that `encode` writes decode to the event they come from (R103; log entry 5). -/
theorem decodeRxArgs_encoded (n : Word32) (data : List Byte) (bc bs : Word32) (rest : List Byte)
    (h : data.length = rxDataLen n) :
    decodeRxArgs ((bytesLE32 n).toList ++ data ++ (bytesLE32 bc).toList ++ (bytesLE32 bs).toList ++ rest) =
      .ok (.rxComplete n data bc bs, rest) := by
  simp only [bytesLE32_toList, List.cons_append, List.nil_append, List.append_assoc, decodeRxArgs, le32_bytesLE32]
  rw [if_neg (by simp; omega), List.drop_left' h, List.take_left' h]
  simp only [le32_bytesLE32]

/-- What a frame decodes to (R103): one of the five events without arguments, from its one code byte, or a receive
completion, from its code byte and its arguments. -/
theorem decodeFrame_cases {frame : Frame} {i : Instr} (h : decodeFrame frame = .ok i) :
    (frame = [0x01#8] ∧ i = .powerOnReset) ∨
    (∃ (n : Word32) (data : List Byte) (bc bs : Word32), i = .rxComplete n data bc bs ∧ data.length = rxDataLen n ∧
      frame = 0x02#8 ::
        ((bytesLE32 n).toList ++ data ++ (bytesLE32 bc).toList ++ (bytesLE32 bs).toList)) ∨
    (frame = [0x03#8] ∧ i = .txComplete) ∨ (frame = [0x04#8] ∧ i = .transportFault) ∨
    (frame = [0x05#8] ∧ i = .classReset) ∨ (frame = [0x06#8] ∧ i = .getMaxLun) := by
  unfold decodeFrame at h
  split at h <;> try cases h
  rename_i hf
  unfold decodeFront at hf
  split at hf
  · cases hf
  split at hf
  · rename_i hc
    simp only [Except.ok.injEq, Prod.mk.injEq] at hf
    simp [hc, ← hf.1, hf.2]
  split at hf
  · rename_i hc
    obtain ⟨n, data, bc, bs, rfl, hl, ha⟩ := decodeRxArgs_cases hf
    exact .inr (.inl ⟨n, data, bc, bs, rfl, hl, by rw [hc, ha, List.append_nil]⟩)
  split at hf
  · rename_i hc
    simp only [Except.ok.injEq, Prod.mk.injEq] at hf
    simp [hc, ← hf.1, hf.2]
  split at hf
  · rename_i hc
    simp only [Except.ok.injEq, Prod.mk.injEq] at hf
    simp [hc, ← hf.1, hf.2]
  split at hf
  · rename_i hc
    simp only [Except.ok.injEq, Prod.mk.injEq] at hf
    simp [hc, ← hf.1, hf.2]
  split at hf
  · rename_i hc
    simp only [Except.ok.injEq, Prod.mk.injEq] at hf
    simp [hc, ← hf.1, hf.2]
  · cases hf

/-- Only events come out of frames (R103). -/
theorem format_of_decodeFrame {frame : Frame} {i : Instr} (h : decodeFrame frame = .ok i) : i.format = .event := by
  rcases decodeFrame_cases h with ⟨_, rfl⟩ | ⟨_, _, _, _, rfl, _⟩ | ⟨_, rfl⟩ | ⟨_, rfl⟩ | ⟨_, rfl⟩ | ⟨_, rfl⟩ <;> rfl

/-- The frame of a receive completion of a whole envelope decodes to it (R103, R109). -/
theorem decodeFrame_envelope (u : Buf 31) (bc bs : Word32) :
    decodeFrame (encode (.rxComplete 31#32 u.toList bc bs)) = .ok (.rxComplete 31#32 u.toList bc bs) := by
  have hu : u.toList.length = rxDataLen 31#32 := by simp [rxDataLen, Config.cbwRxMax]
  have := decodeRxArgs_encoded 31#32 u.toList bc bs [] hu
  simp only [List.append_nil, List.append_assoc] at this
  simp [decodeFrame, encode, decodeFront, this, -bytesLE32_toList]

end Sys2Proof
end

