-- ==== Sys2Proof/Laws/Ops.lean ====
section
/-! SUPPORT. Laws/Ops.lean: the composed operations, each as the whole state it leaves. -/

namespace Sys2Proof.Machine

/-- Arming a receive (R40). -/
theorem armReceive_eq (s : State) : s.armReceive = { s with
    out := s.out ++ [.startReceive .cbw Config.cbwRxMax]
    outstanding := some (.receive .cbw Config.cbwRxMax) } := rfl

/-- The Error-entry sequence of a framing error (R242). -/
theorem raiseFraming_eq (s : State) (c : Cause) : s.raiseFraming c = { s with
    phase := .error
    out := s.out ++ [.stall .epOut]
    cause := some c } := rfl

/-- The Error-entry sequence of a transport fault (R244). -/
theorem raiseTransportFault_eq (s : State) : s.raiseTransportFault = { s with
    phase := .error
    outstanding := none
    cause := some (.tFault s.phase) } := rfl

/-- Building and sending the CSW (R134). -/
theorem sendStatus_eq (s : State) : s.sendStatus = { s with
    phase := .sendingStatus
    csw := encodeCSW (read4 s.cbw 4) s.resLatch s.stsLatch
    out := s.out ++ [.startTransmit .csw Config.cswLen]
    outstanding := some (.transmit .csw Config.cswLen)
    race := s.race || s.abandoned.contains .csw } := rfl

/-- The return to `Idle` (R220, R247): what it leaves alone, and what it sets. -/
theorem returnToIdle_eq (s : State) : s.returnToIdle = { s with
    phase := .idle
    out := s.out ++ [.startReceive .cbw Config.cbwRxMax]
    outstanding := some (.receive .cbw Config.cbwRxMax)
    abandoned := s.abandon.abandoned } := rfl

/-- What is abandoned is abandoned once: with a receive outstanding, or nothing, the list stays (R43). -/
theorem abandon_abandoned_of_not_transmit {s : State} (h : ∀ src len, s.outstanding ≠ some (.transmit src len)) :
    s.abandon.abandoned = s.abandoned := by
  unfold State.abandon
  cases ho : s.outstanding with
  | none => rfl
  | some tr =>
    cases tr with
    | receive buf m => rfl
    | transmit src len => exact absurd ho (h src len)

end Sys2Proof.Machine
end

