-- ==== Sys2Proof/Laws/PerInstr.lean ====
section
/-! SUPPORT. Laws/PerInstr.lean: the family HeadByte: an instruction's encoding begins with the code byte or the opcode
of its row (30_encoding.md R103, R104). -/

namespace Sys2Proof.Laws.HeadByte

/-- The encoding begins with the row's code byte or opcode. -/
def Statement (i : Instr) : Prop := (encode i).head? = some i.headByte

theorem powerOnReset : Statement .powerOnReset := rfl

theorem rxComplete (n : Word32) (data : List Byte) (bc bs : Word32) : Statement (.rxComplete n data bc bs) := rfl

theorem txComplete : Statement .txComplete := rfl

theorem transportFault : Statement .transportFault := rfl

theorem classReset : Statement .classReset := rfl

theorem getMaxLun : Statement .getMaxLun := rfl

theorem inquiry : Statement .inquiry := rfl

theorem readFormatCapacities (bc bs : Word32) : Statement (.readFormatCapacities bc bs) := rfl

theorem unsupported (opc : Byte) : Statement (.unsupported opc) := rfl

end Sys2Proof.Laws.HeadByte
end

