-- ==== Sys2Proof/Laws/Step.lean ====
section
/-! SUPPORT. Laws/Step.lean: everything a step can do. -/

namespace Sys2Proof.Machine

/-- The cases of a step that answers a next state: no event is pending, or the oldest one is executed (R130). -/
theorem step_cases {s t : State} (h : step s = .next t) :
    (s.inbox = [] ∧ t = s.begin) ∨
    ∃ frame rest i, s.inbox = frame :: rest ∧ decodeFrame frame = .ok i ∧ s.admits i = true ∧
      exec i (s.begin.setInbox rest) = .next t := by
  unfold step fetch at h
  cases hin : s.inbox with
  | nil =>
    simp only [hin] at h
    exact .inl ⟨rfl, (Host.Outcome.next.inj h).symm⟩
  | cons frame rest =>
    simp only [hin] at h
    cases hd : decodeFrame frame with
    | error e => simp [hd] at h
    | ok i =>
      simp only [hd] at h
      cases ha : s.admits i with
      | false => simp [ha] at h
      | true =>
        simp only [ha, if_true] at h
        exact .inr ⟨frame, rest, i, rfl, hd, ha, h⟩

theorem admits_of_started {s : State} (h : s.started = true) (i : Instr) : s.admits i = true := by
  simp [State.admits, h]

theorem admits_powerOnReset (s : State) : s.admits .powerOnReset = true := by simp [State.admits]

/-- A frame that decodes and is admitted is executed (R130, R271). -/
theorem step_of_frame {s : State} {frame : Frame} {rest : List Frame} {i : Instr} (hin : s.inbox = frame :: rest)
    (hd : decodeFrame frame = .ok i) (ha : s.admits i = true) : step s = exec i (s.begin.setInbox rest) := by
  simp [step, fetch, hin, hd, ha]

end Sys2Proof.Machine
end

