-- ==== Sys2Proof/Machine/Trace.lean ====
section
/-! DEFINITION. Machine/Trace.lean: the event-trace notation of 30_encoding.md R108, in which the spec writes programs;
notation only, no step reads it. -/

namespace Sys2Proof.Machine

/-- One hexadecimal digit. -/
def hexDigit (d : Nat) : Char := if d < 10 then Char.ofNat (48 + d) else Char.ofNat (55 + d)

/-- A byte as two hexadecimal digits. -/
def hexByte (b : Byte) : List Char := [hexDigit (b.toNat / 16), hexDigit (b.toNat % 16)]

/-- Bytes as hexadecimal, one space between two. -/
def hexBytes : List Byte → List Char
  | [] => []
  | [b] => hexByte b
  | b :: b' :: bs => hexByte b ++ [' '] ++ hexBytes (b' :: bs)

/-- The trace line of an event; a CDB0 row has none of its own, it stands inside an `RX` line (R108). -/
def traceEvent : Instr → Option (List Char)
  | .powerOnReset => some ['P', 'O', 'R']
  | .rxComplete n data _ _ => some (['R', 'X', ' '] ++ Nat.toDigits 10 n.toNat ++ [' '] ++ hexBytes data)
  | .txComplete => some ['T', 'X']
  | .transportFault => some ['F', 'A', 'U', 'L', 'T']
  | .classReset => some ['R', 'E', 'S', 'E', 'T']
  | .getMaxLun => some ['G', 'E', 'T', 'M', 'A', 'X', 'L', 'U', 'N']
  | .inquiry => none
  | .readFormatCapacities _ _ => none
  | .unsupported _ => none

end Sys2Proof.Machine
end

