-- ==== Sys2Proof/Tests/Slice0.lean ====
section
/-! SUPPORT. Tests/Slice0.lean: the model's own tests. The expected results are the spec's: the vectors T<n>, S<n> and
the encodings E<n> of 95_test_vectors.md, and the layouts of 30_encoding.md; and, for every statement with hypotheses,
a state and operands that meet them. -/

namespace Sys2Proof.Tests

open Sys2Proof.Machine

/-- The outcome is a next state in which `p` holds. -/
def nextIs (o : Host.Outcome State Fault Refusal) (p : State → Bool) : Bool :=
  match o with
  | .next t => p t
  | .fault _ => false
  | .refused _ => false

/-- The outcome is the refusal `r`. -/
def refusedIs (o : Host.Outcome State Fault Refusal) (r : Refusal) : Bool :=
  match o with
  | .next _ => false
  | .fault _ => false
  | .refused r' => r == r'

/-- The reset state with one frame pending. -/
def withFrame (frame : Frame) : State := { State.reset with inbox := [frame] }

/-- The reset state with one receive completion of 31 bytes pending, storage inputs 1000 and 512. -/
def withEnvelope (data : List Byte) : State := withFrame (encode (.rxComplete 31#32 data 1000#32 512#32))

/-- The reset state in another phase. -/
def inPhase (p : Phase) : State := { State.reset with phase := p }

/-- The CBW `data` as the contents of `cbw`. -/
def asCbw (data : List Byte) : Buf 31 := receiveInto State.reset.cbw 31#32 data

/-- E1 of 95_test_vectors.md, byte by byte: CMD_IN(0x12345678, 36, 0x12). -/
def e1 : List Byte :=
  [0x55#8, 0x53#8, 0x42#8, 0x43#8, 0x78#8, 0x56#8, 0x34#8, 0x12#8, 0x24#8, 0x00#8, 0x00#8, 0x00#8, 0x80#8, 0x00#8,
    0x06#8, 0x12#8] ++ List.replicate 15 0x00#8

/-- E2: CMD_IN(0x00000002, 0xFC, 0x23). -/
def e2 : List Byte :=
  [0x55#8, 0x53#8, 0x42#8, 0x43#8, 0x02#8, 0x00#8, 0x00#8, 0x00#8, 0xFC#8, 0x00#8, 0x00#8, 0x00#8, 0x80#8, 0x00#8,
    0x06#8, 0x23#8] ++ List.replicate 15 0x00#8

/-- E3: the signature's last byte changed to 0x44. -/
def e3 : List Byte :=
  [0x55#8, 0x53#8, 0x42#8, 0x44#8, 0xD4#8, 0xC3#8, 0xB2#8, 0xA1#8, 0x08#8, 0x00#8, 0x00#8, 0x00#8, 0x80#8, 0x00#8,
    0x06#8, 0x12#8] ++ List.replicate 15 0x00#8

/-- E5: CMD_IN(0xDEADBEEF, 0x200, 0xFF). -/
def e5 : List Byte :=
  [0x55#8, 0x53#8, 0x42#8, 0x43#8, 0xEF#8, 0xBE#8, 0xAD#8, 0xDE#8, 0x00#8, 0x02#8, 0x00#8, 0x00#8, 0x80#8, 0x00#8,
    0x06#8, 0xFF#8] ++ List.replicate 15 0x00#8

/-- E7: CMD_OUT(0x0000BEEF, 0x1000, 0x12). -/
def e7 : List Byte :=
  [0x55#8, 0x53#8, 0x42#8, 0x43#8, 0xEF#8, 0xBE#8, 0x00#8, 0x00#8, 0x00#8, 0x10#8, 0x00#8, 0x00#8, 0x00#8, 0x00#8,
    0x06#8, 0x12#8] ++ List.replicate 15 0x00#8

/-! ## Well-formedness: an ill-formed term for each check -/

theorem test_wf_rx_too_few_bytes : (Instr.rxComplete 2#32 [0x55#8] 0#32 0#32).wellFormed = false := by decide
theorem test_wf_rx_more_than_31_bytes :
    (Instr.rxComplete 32#32 (List.replicate 32 0x00#8) 0#32 0#32).wellFormed = false := by decide
theorem test_wf_rx_long_receive : (Instr.rxComplete 32#32 (List.replicate 31 0x00#8) 0#32 0#32).wellFormed = true := by
  decide
theorem test_wf_unsupported_inquiry : (Instr.unsupported 0x12#8).wellFormed = false := by decide
theorem test_wf_unsupported_rfc : (Instr.unsupported 0x23#8).wellFormed = false := by decide
theorem test_wf_unsupported : (Instr.unsupported 0xFF#8).wellFormed = true := by decide

/-- The constraints of R7 on the parameters. -/
theorem test_parameters :
    Config.magicA ≠ Config.magicB ∧ Config.opcInquiry ≠ Config.opcRfc ∧ Config.opcInquiry ≠ 0xFF#8 ∧
    Config.opcRfc ≠ 0xFF#8 := by decide

/-! ## Decoding: words written out from R103 and R104 -/

theorem test_decode_power_on_reset : decodeFrame [0x01#8] = .ok .powerOnReset := by decide
theorem test_decode_rx_complete :
    decodeFrame [0x02#8, 0x02#8, 0x00#8, 0x00#8, 0x00#8, 0xAA#8, 0xBB#8, 0x01#8, 0x02#8, 0x03#8, 0x04#8, 0x00#8, 0x02#8,
      0x00#8, 0x01#8] = .ok (.rxComplete 2#32 [0xAA#8, 0xBB#8] 0x04030201#32 0x01000200#32) := by decide
theorem test_decode_tx_complete : decodeFrame [0x03#8] = .ok .txComplete := by decide
theorem test_decode_transport_fault : decodeFrame [0x04#8] = .ok .transportFault := by decide
theorem test_decode_class_reset : decodeFrame [0x05#8] = .ok .classReset := by decide
theorem test_decode_get_max_lun : decodeFrame [0x06#8] = .ok .getMaxLun := by decide
theorem test_decode_inquiry : decodeOpcode 0x12#8 7#32 8#32 = .inquiry := by decide
theorem test_decode_rfc : decodeOpcode 0x23#8 7#32 8#32 = .readFormatCapacities 7#32 8#32 := by decide
theorem test_decode_unsupported : decodeOpcode 0x01#8 7#32 8#32 = .unsupported 0x01#8 := by decide
theorem test_decode_no_event : decodeFrame [0x07#8] = .error (.noSuchEvent 0x07#8) := by decide
theorem test_decode_truncated : decodeFrame [0x02#8, 0x01#8, 0x00#8, 0x00#8] = .error .truncated := by decide
theorem test_decode_missing_data :
    decodeFrame [0x02#8, 0x05#8, 0x00#8, 0x00#8, 0x00#8, 0xAA#8] = .error .truncated := by decide
theorem test_decode_trailing : decodeFrame [0x03#8, 0x00#8] = .error .trailingBytes := by decide
theorem test_decode_empty : decodeFrame [] = .error .emptyFrame := by decide
theorem test_encode_envelope_e1 : cmdIn 0x12345678#32 36#32 0x12#8 = e1 := by decide
theorem test_encode_envelope_e7 : cmdOut 0x0000BEEF#32 0x1000#32 0x12#8 = e7 := by decide
theorem test_request_codes :
    decodeRequest 0xFE#8 = some .getMaxLun ∧ decodeRequest 0xFF#8 = some .classReset ∧ decodeRequest 0xFD#8 = none := by
  decide
theorem test_table_words :
    (List.range 7).map (decodeTableWord 8) =
      [some (.unsupported 0x00#8), some .powerOnReset, some (.rxComplete 0#32 [] 0#32 0#32), some .txComplete,
        some .transportFault, some .classReset, some .getMaxLun] ∧
    decodeTableWord 8 0x12 = some .inquiry ∧ decodeTableWord 8 0x23 = some (.readFormatCapacities 0#32 0#32) := by
  decide

/-! ## The codec (T1 to T11) -/

/-- T1. -/
theorem test_fields_e1 :
    fields (asCbw e1) =
      { tagB := #v[0x78#8, 0x56#8, 0x34#8, 0x12#8], tag := 0x12345678#32, dtl := 36#32, dirIn := true, lun := 0x00#8,
        cbl := 0x06#8, opcode := 0x12#8 } := by decide
/-- T5, T7. -/
theorem test_framing_causes :
    decodeCBW 31#32 (asCbw e3) = .error (.fSignature 0x44425355#32) ∧
    decodeCBW 30#32 (asCbw e3) = .error (.fLength 30#32) := by decide
/-- T9. -/
theorem test_encode_csw :
    (encodeCSW (Vector.replicate 4 0xFF#8) 0xFFFFFFFF#32 0x01#8).toList =
      [0x55#8, 0x53#8, 0x42#8, 0x53#8] ++ List.replicate 8 0xFF#8 ++ [0x01#8] := by decide
/-- T11. -/
theorem test_meaningful :
    [(0x00#8, 0x06#8), (0x00#8, 0x01#8), (0x00#8, 0x10#8), (0x01#8, 0x06#8), (0x80#8, 0x06#8), (0x00#8, 0x00#8),
      (0x00#8, 0x11#8), (0x01#8, 0x00#8)].map
        (fun p => (meaningful { fields (asCbw e1) with lun := p.1, cbl := p.2 },
          (failCause { fields (asCbw e1) with lun := p.1, cbl := p.2 }).code)) =
      [(true, 0x13#8), (true, 0x13#8), (true, 0x13#8), (false, 0x12#8), (false, 0x12#8), (false, 0x13#8),
        (false, 0x13#8), (false, 0x12#8)] := by decide
theorem test_status_codes : statusOf 0x02#8 = some .phaseError ∧ statusOf 0x03#8 = none := by decide
theorem test_big_endian : be32 0x00#8 0x00#8 0x03#8 0xE8#8 = 1000#32 ∧ be24 0x00#8 0x02#8 0x00#8 = 512#24 := by decide
/-- R108. -/
theorem test_trace_line :
    traceEvent (.rxComplete 13#32 [0x55#8, 0xE8#8] 0#32 0#32) =
      some ['R', 'X', ' ', '1', '3', ' ', '5', '5', ' ', 'E', '8'] := by decide

/-! ## One step of each instruction -/

/-- T34: a short receive; R69: the bytes past it keep their old values. -/
theorem test_rx_short :
    nextIs (step { withFrame (encode (.rxComplete 1#32 [0x55#8] 0#32 0#32)) with cbw := asCbw e1 }) (fun t =>
      t.phase == .error && t.out == [.stall .epOut] && t.cause == some (.fLength 1#32) && t.cbw == asCbw e1) = true := by
  decide
/-- T36, R199: an accepted host-to-device command. -/
theorem test_rx_out :
    nextIs (step (withEnvelope e7)) (fun t =>
      t.phase == .dataOut && t.out == [] && t.extension && t.outstanding == none) = true := by decide
/-- T12, T31: the request and the phase of an INQUIRY. -/
theorem test_inquiry :
    nextIs (step (withEnvelope e1)) (fun t => t.phase == .dataIn && t.stsLatch == 0x00#8 && t.cause == none) = true := by
  decide
/-- T18, S6: format capacities with 1000 blocks of 512 bytes, residue 240. -/
theorem test_read_format_capacities :
    nextIs (step (withEnvelope e2)) (fun t =>
      t.out == [.startTransmit .fcBuf 12] && t.resLatch == 240#32 && t.fcBuf.toList.take 8 ==
        [0x00#8, 0x00#8, 0x00#8, 0x08#8, 0x00#8, 0x00#8, 0x03#8, 0xE8#8] && t.fcBuf.toList.drop 9 ==
        [0x00#8, 0x02#8, 0x00#8]) = true := by decide
/-- T19: the length cut to the host's 4 bytes, residue 0. -/
theorem test_read_format_capacities_cut :
    nextIs (step (withEnvelope (cmdIn 1#32 4#32 0x23#8))) (fun t =>
      t.out == [.startTransmit .fcBuf 4] && t.resLatch == 0#32) = true := by decide
/-- T23, S7. -/
theorem test_unsupported :
    nextIs (step (withEnvelope e5)) (fun t =>
      t.phase == .sendingStatus && t.out == [.startTransmit .csw 13] && t.cause == some (.cOpcode 0xFF#8) &&
      t.csw.toList == [0x55#8, 0x53#8, 0x42#8, 0x53#8, 0xEF#8, 0xBE#8, 0xAD#8, 0xDE#8, 0x00#8, 0x02#8, 0x00#8, 0x00#8,
        0x01#8]) = true := by decide
/-- T24: an unsupported opcode that is also an event code, host to device. -/
theorem test_unsupported_out :
    nextIs (step (withEnvelope (cmdOut 0x11223344#32 0#32 0x00#8))) (fun t =>
      t.csw.toList == [0x55#8, 0x53#8, 0x42#8, 0x53#8, 0x44#8, 0x33#8, 0x22#8, 0x11#8, 0x00#8, 0x00#8, 0x00#8, 0x00#8,
        0x01#8]) = true := by decide
/-- T32. -/
theorem test_tx_data_in :
    nextIs (step { withFrame [0x03#8] with phase := .dataIn, cbw := asCbw e1 }) (fun t =>
      t.phase == .sendingStatus && t.csw.toList == [0x55#8, 0x53#8, 0x42#8, 0x53#8, 0x78#8, 0x56#8, 0x34#8, 0x12#8,
        0x00#8, 0x00#8, 0x00#8, 0x00#8, 0x00#8]) = true := by decide
/-- T33. -/
theorem test_tx_sending_status :
    nextIs (step { withFrame [0x03#8] with phase := .sendingStatus }) (fun t =>
      t.phase == .idle && t.out == [.startReceive .cbw 31]) = true := by decide
/-- T39. -/
theorem test_fault :
    nextIs (step { withFrame [0x04#8] with phase := .dataIn }) (fun t =>
      t.phase == .error && t.out == [] && t.cause == some (.tFault .dataIn)) = true := by decide
/-- T41; P3 steps 3 and 4: the transmit in flight is abandoned. -/
theorem test_class_reset :
    nextIs (step { withFrame [0x05#8] with phase := .dataIn, outstanding := some (.transmit .fcBuf 5) }) (fun t =>
      t.phase == .idle && t.out == [.startReceive .cbw 31] && t.abandoned == [.fcBuf]) = true := by decide
/-- T43. -/
theorem test_get_max_lun :
    nextIs (step { withFrame [0x06#8] with phase := .error, outstanding := none }) (fun t =>
      t.phase == .error && t.out == [.ctrlReply [0x00#8]] && t.outstanding == none) = true := by decide
/-- T44, T45: the phase and the request; the contents are unspecified. -/
theorem test_power_on_reset :
    nextIs (step { withFrame [0x01#8] with phase := .dataIn, started := false }) (fun t =>
      t.phase == .idle && t.out == [.startReceive .cbw 31] && t.started) = true := by decide

/-! ## Refusals and table words -/

theorem test_first_event_refused :
    refusedIs (step (State.beforePowerOn [[0x06#8]])) .firstEventNotPowerOn = true := by decide
theorem test_no_event_refused :
    refusedIs (step (withFrame [0x00#8])) (.undecodable (.noSuchEvent 0x00#8)) = true := by decide
theorem test_table_words_run :
    [0x00, 0x01, 0x02, 0x03, 0x04, 0x05, 0x06, 0x12, 0x23].map
      (fun w => nextIs (step (State.reset.withFetchWord 8 w)) (fun _ => true)) = List.replicate 9 true := by decide
/-- A CDB0 word runs its command through the receive completion (log entry 6). -/
theorem test_table_word_rfc :
    nextIs (step (State.reset.withFetchWord 8 0x23)) (fun t =>
      t.phase == .dataIn && t.out == [.startTransmit .fcBuf 0] && t.fcBuf[3] == 0x08#8) = true := by decide
theorem test_head_byte_of_unsupported (opc : Byte) : (encode (.unsupported opc)).head? = some opc :=
  Laws.HeadByte.unsupported opc

/-! ## Witnesses: for every statement with hypotheses, operands and a state that meet them -/

theorem witness_decode_of_encode :
    (Instr.rxComplete 0#32 [] 1#32 2#32).wellFormed = true ∧ (Instr.unsupported 0xFF#8).wellFormed = true ∧
    (Instr.rxComplete 0xFFFFFFFF#32 (e1 ++ []) 1#32 2#32).wellFormed = true := by decide
theorem witness_encode_of_decode : decodeFrame [0x06#8] = .ok .getMaxLun := by decide
/-- Both ends of both ranges. -/
theorem witness_no_event_codes :
    (withFrame [0x00#8]).inbox = [0x00#8 :: []] ∧ 0x07 ≤ (0x07#8).toNat ∧ 0x07 ≤ (0xFF#8).toNat := by decide
theorem witness_control_requests : (0x00#8 : Byte) ≠ 0xFE#8 ∧ (0x00#8 : Byte) ≠ 0xFF#8 := by decide
theorem witness_status_codes : 3 ≤ (0x03#8).toNat ∧ 3 ≤ (0xFF#8).toNat := by decide
theorem witness_cbw_round_trip : (List.replicate 15 0xAA#8).length = 15 := by decide
/-- Shorter by one, longer by one, empty, and the largest length. -/
theorem witness_wrong_length :
    State.reset.phase = .idle ∧ (30#32).toNat ≠ 31 ∧ (32#32).toNat ≠ 31 ∧ (0#32).toNat ≠ 31 ∧
    (0xFFFFFFFF#32).toNat ≠ 31 := by decide
/-- One bit of the first byte, one of the last. -/
theorem witness_wrong_signature :
    State.reset.phase = .idle ∧ (List.replicate 27 0x00#8).length = 27 ∧
    le32 0x54#8 0x53#8 0x42#8 0x43#8 ≠ Config.magicA ∧ le32 0x55#8 0x53#8 0x42#8 0xC3#8 ≠ Config.magicA := by decide
/-- No byte, a short, a whole and a long receive. -/
theorem witness_receive_writes :
    State.reset.phase = .idle ∧ ([] : List Byte).length = min (0#32).toNat 31 ∧
    [0x55#8].length = min (1#32).toNat 31 ∧ e1.length = min (31#32).toNat 31 ∧ e1.length = min (32#32).toNat 31 := by
  decide
theorem witness_accepted_envelope :
    State.reset.phase = .idle ∧ (asCbw e1).toList = e1 ∧ signature (asCbw e1) = Config.magicA ∧
    meaningful (fields (asCbw e1)) = true := by decide
/-- Each of the three content failures: LUN 0x80, CBL 0, CBL 17. -/
theorem witness_meaningless_envelope :
    (asCbw (cbwBytes 1#32 36#32 0x80#8 0x80#8 0x06#8 [0x12#8])).toList =
      cbwBytes 1#32 36#32 0x80#8 0x80#8 0x06#8 [0x12#8] ∧
    signature (asCbw (cbwBytes 1#32 36#32 0x80#8 0x80#8 0x06#8 [0x12#8])) = Config.magicA ∧
    (asCbw (cbwBytes 1#32 36#32 0x80#8 0x80#8 0x06#8 [0x12#8]))[13] ≠ 0x00#8 ∧
    (asCbw (cbwBytes 1#32 36#32 0x80#8 0x00#8 0x00#8 [0x12#8]))[14] = 0x00#8 ∧
    16 < (asCbw (cbwBytes 1#32 36#32 0x80#8 0x00#8 0x11#8 [0x12#8]))[14].toNat := by decide
theorem witness_receive_outside_idle :
    (inPhase .dataIn).phase ≠ .idle ∧ (inPhase .error).phase ≠ .idle := by decide
/-- Outside `Idle`, and in it. -/
theorem witness_receive_frame :
    exec (.rxComplete 0#32 [] 0#32 0#32) (inPhase .error) = .next (inPhase .error) ∧
    (inPhase .error).phase ≠ .idle ∧ ∃ t, exec (.rxComplete 0#32 [] 0#32 0#32) State.reset = .next t :=
  ⟨rfl, by decide, _, rfl⟩
/-- A state without a cause, and an envelope for each clause. -/
theorem witness_first_cause :
    State.reset.phase = .idle ∧ State.reset.cause = none ∧ signature (asCbw e3) ≠ Config.magicA ∧
    (asCbw (cbwBytes 1#32 36#32 0x80#8 0x01#8 0x00#8 [0x12#8]))[13] ≠ 0x00#8 ∧
    (asCbw (cbwBytes 1#32 36#32 0x80#8 0x00#8 0x11#8 [0xFF#8]))[14].toNat = 17 ∧ (asCbw e5)[15] = 0xFF#8 ∧
    (asCbw e1)[15] = Config.opcInquiry := by decide
/-- Two envelopes that differ in a low flag bit and in a later command-block byte. -/
theorem witness_unread_bits :
    State.reset.phase = .idle ∧
    (∀ k : Fin 31, k.val < 16 → k.val ≠ 12 →
      (asCbw e1)[k.val] = (asCbw (cbwBytes 0x12345678#32 36#32 0xFF#8 0x00#8 0x06#8 [0x12#8, 0xAA#8]))[k.val]) ∧
    (asCbw e1)[12].getLsbD 7 =
      (asCbw (cbwBytes 0x12345678#32 36#32 0xFF#8 0x00#8 0x06#8 [0x12#8, 0xAA#8]))[12].getLsbD 7 := by decide
theorem witness_storage_values : State.reset.phase = .idle ∧ (asCbw e1)[15] ≠ Config.opcRfc := by decide
/-- A state with a device-to-host command in `cbw`, for INQUIRY, for the payload of 12 bytes and for both frames. -/
theorem witness_in_command : (fields { State.reset with cbw := asCbw e1 }.cbw).dirIn = true := by decide
theorem witness_out_command : (fields { State.reset with cbw := asCbw e7 }.cbw).dirIn = false := by decide
theorem witness_big_endian : (0xFFFFFF#32).toNat < 2 ^ 24 ∧ (0#32).toNat < 2 ^ 24 := by decide
theorem witness_data_completion : (inPhase .dataIn).phase = .dataIn := by decide
theorem witness_status_completion : (inPhase .sendingStatus).phase = .sendingStatus := by decide
theorem witness_other_completions :
    (inPhase .idle).phase = .idle ∧ (inPhase .dataOut).phase = .dataOut ∧ (inPhase .error).phase = .error := by decide
theorem witness_return_from_error :
    (inPhase .error).phase = .error ∧ Instr.classReset.format = .event ∧ Instr.powerOnReset.format = .event ∧
    Instr.getMaxLun.format = .event := by decide
theorem witness_class_reset_twice :
    exec .classReset (inPhase .dataIn) =
      .next { State.reset with out := [.startReceive .cbw 31, .startReceive .cbw 31] } := rfl
theorem witness_get_max_lun :
    exec .getMaxLun (inPhase .error) =
      .next { inPhase .error with out := [.startReceive .cbw 31, .ctrlReply [0x00#8]] } := rfl
/-- Both clauses: a started core, and a power-on before the first one. -/
theorem witness_step_runs :
    (withFrame [0x03#8]).inbox = [0x03#8] :: [] ∧ decodeFrame [0x03#8] = .ok .txComplete ∧
    (withFrame [0x03#8]).started = true ∧ (State.beforePowerOn [[0x01#8]]).inbox = [0x01#8] :: [] ∧
    decodeFrame [0x01#8] = .ok .powerOnReset := by decide
theorem witness_step_waits : State.reset.inbox = [] := by decide
theorem witness_first_event :
    (State.beforePowerOn [[0x06#8]]).started = false ∧ (State.beforePowerOn [[0x06#8]]).inbox = [0x06#8] :: [] ∧
    decodeFrame [0x06#8] = .ok .getMaxLun ∧ Instr.getMaxLun ≠ .powerOnReset := by decide
theorem witness_transition_table :
    exec .transportFault (inPhase .dataIn) =
      .next { inPhase .error with outstanding := none, cause := some (.tFault .dataIn) } := rfl
/-- A step that answers a next state and issues a request, for the rules over all steps. -/
theorem witness_step_issues :
    ∃ t, step (withFrame [0x05#8]) = .next t ∧ Request.startReceive .cbw 31 ∈ t.out := ⟨_, rfl, by decide⟩
theorem witness_status_latch :
    Instr.getMaxLun ≠ .powerOnReset ∧ ∃ t, exec .getMaxLun State.reset = .next t := ⟨by decide, _, rfl⟩
/-- In `Error`: an event that stays there, and the two that leave. -/
theorem witness_error_phase :
    (∃ t, (inPhase .error).phase = .error ∧ step { inPhase .error with inbox := [[0x03#8]] } = .next t ∧
      t.phase = .error) ∧
    (∃ t, step { inPhase .error with inbox := [[0x05#8]] } = .next t ∧ t.phase = .idle) ∧
    ∃ t, step { inPhase .error with inbox := [[0x01#8]] } = .next t ∧ t.phase = .idle :=
  ⟨⟨_, rfl, rfl, rfl⟩, ⟨_, rfl, rfl⟩, ⟨_, rfl, rfl⟩⟩
/-- In `DataOut`: one event for each of the three clauses. -/
theorem witness_data_out_phase :
    (∃ t, step { inPhase .dataOut with inbox := [[0x06#8]] } = .next t ∧ t.phase = .dataOut) ∧
    (∃ t, step { inPhase .dataOut with inbox := [[0x04#8]] } = .next t ∧ t.phase = .error) ∧
    ∃ t, step { inPhase .dataOut with inbox := [[0x05#8]] } = .next t ∧ t.phase = .idle :=
  ⟨⟨_, rfl, rfl⟩, ⟨_, rfl, rfl⟩, ⟨_, rfl, rfl⟩⟩
/-- A reset state in phase `p` that lists `csw` and `fcBuf` as abandoned. -/
def withAbandoned (p : Phase) : State := { inPhase p with abandoned := [.fcBuf, .csw] }
/-- A CBW with LUN 0x80. -/
def badLun : List Byte := cbwBytes 1#32 36#32 0x80#8 0x80#8 0x06#8 [0x12#8]

/-- A transmit outstanding when either reset comes, and both sources listed in each phase that a clause names. -/
theorem witness_race :
    ({ inPhase .sendingStatus with outstanding := some (.transmit .csw 13) }).outstanding = some (.transmit .csw 13) ∧
    .csw ∈ (withAbandoned .dataIn).abandoned ∧ (withAbandoned .dataIn).phase = .dataIn ∧
    .csw ∈ (withAbandoned .idle).abandoned ∧ .fcBuf ∈ (withAbandoned .idle).abandoned ∧
    (withAbandoned .idle).phase = .idle := by decide
/-- The envelopes of that statement: a content failure, an unsupported opcode, READ FORMAT CAPACITIES. -/
theorem witness_race_envelopes :
    signature (asCbw badLun) = Config.magicA ∧ meaningful (fields (asCbw badLun)) = false ∧
    signature (asCbw e5) = Config.magicA ∧ (asCbw e5)[15] ≠ Config.opcInquiry ∧ (asCbw e5)[15] ≠ Config.opcRfc ∧
    signature (asCbw e2) = Config.magicA ∧ meaningful (fields (asCbw e2)) = true ∧
    (asCbw e2)[15] = Config.opcRfc := by decide
/-- A mark that stays, a source that stays listed, and both ways to set the mark. -/
theorem witness_race_mark :
    (∃ t, exec .classReset { inPhase .error with race := true } = .next t ∧ t.race = true) ∧
    (∃ t, exec .getMaxLun (withAbandoned .idle) = .next t ∧ .csw ∈ t.abandoned) ∧
    (∃ t, exec .txComplete (withAbandoned .dataIn) = .next t ∧ .csw ∈ t.abandoned ∧ t.race = true) ∧
    ∃ t, exec (.readFormatCapacities 1#32 2#32) (withAbandoned .idle) = .next t ∧ t.race = true :=
  ⟨⟨_, rfl, rfl⟩, ⟨_, rfl, by decide⟩, ⟨_, rfl, by decide, rfl⟩, ⟨_, rfl, rfl⟩⟩
theorem witness_power_on : ∃ t, exec .powerOnReset (inPhase .error) = .next t := ⟨_, rfl⟩

/-- A core in `DataIn` with E2 accepted, its 12 bytes on their way, and their completion pending. -/
def midTransaction : State :=
  { withFrame [0x03#8] with
    phase := .dataIn
    cbw := asCbw e2
    resLatch := 240#32
    outstanding := some (.transmit .fcBuf 12) }

theorem midTransaction_inv : Safety.Inv midTransaction where
  outstanding := ⟨.fcBuf, 12, rfl, .inr rfl, by decide, by decide⟩
  command := by intro _; decide
  dataPhase := by intro _; decide
  status := by intro h; cases h
  marked := by intro h; cases h

theorem witness_step_keeps_inv :
    Safety.Inv midTransaction ∧ ∃ t, step midTransaction = .next t := ⟨midTransaction_inv, _, rfl⟩
theorem witness_reachable : Safety.Reachable State.reset := .reset
theorem witness_status_echo :
    Safety.Inv midTransaction ∧ ∃ t, step midTransaction = .next t ∧ Request.startTransmit .csw 13 ∈ t.out :=
  ⟨midTransaction_inv, _, rfl, by decide⟩

/-- The reset state with an envelope and two transmit completions pending. -/
def withTransaction (u : Buf 31) : State :=
  { State.reset with inbox := encode (.rxComplete 31#32 u.toList 1000#32 512#32) :: [0x03#8] :: [[0x03#8]] }

/-- Both accepted commands. -/
theorem witness_accepted_transaction :
    (withTransaction (asCbw e1)).started = true ∧ (withTransaction (asCbw e1)).phase = .idle ∧
    (withTransaction (asCbw e1)).inbox =
      encode (.rxComplete 31#32 (asCbw e1).toList 1000#32 512#32) :: [0x03#8] :: [0x03#8] :: [] ∧
    signature (asCbw e1) = Config.magicA ∧ meaningful (fields (asCbw e1)) = true ∧ (fields (asCbw e1)).dirIn = true ∧
    (asCbw e1)[15] = Config.opcInquiry ∧ (asCbw e2)[15] = Config.opcRfc := by decide
/-- Both rejections: an unsupported opcode, and a content failure. -/
theorem witness_rejected_transaction :
    (withTransaction (asCbw e5)).started = true ∧ (withTransaction (asCbw e5)).phase = .idle ∧
    (withTransaction (asCbw e5)).inbox =
      encode (.rxComplete 31#32 (asCbw e5).toList 1000#32 512#32) :: [0x03#8] :: [[0x03#8]] ∧
    signature (asCbw e5) = Config.magicA ∧ (asCbw e5)[15] ≠ Config.opcInquiry ∧ (asCbw e5)[15] ≠ Config.opcRfc ∧
    meaningful (fields (asCbw (cbwBytes 1#32 36#32 0x80#8 0x00#8 0x11#8 [0x12#8]))) = false := by decide
theorem witness_instances :
    (∃ s t, [State.reset, withFrame [0x05#8]][1]? = some s ∧ step s = .next t) ∧
    ∃ cores', stepInstance 1 [State.reset, withFrame [0x05#8]] = .next cores' ∧
      [inPhase .error, withFrame [0x05#8]][1]? = [State.reset, withFrame [0x05#8]][1]? :=
  ⟨⟨_, _, rfl, rfl⟩, _, rfl, rfl⟩

end Sys2Proof.Tests
end

section
/-! PROOFS. The instances share nothing (10_state.md R48): one inversion of `stepInstance`, and O58 from it. -/

namespace Sys2Proof.Proofs

open Sys2Proof.Machine

/-- What a step of one instance can do: it is the step of that instance's state, put back in its place (R48). -/
theorem stepInstance_eq_next_iff {k : Nat} {cores cores' : List State} :
    stepInstance k cores = .next cores' ↔
      ∃ s t : State, cores[k]? = some s ∧ step s = .next t ∧ cores' = cores.set k t := by
  constructor
  · intro h
    unfold stepInstance at h
    split at h
    case h_1 => cases h
    case h_2 s hs =>
      split at h
      case h_1 t ht => exact ⟨s, t, hs, ht, (Host.Outcome.next.inj h).symm⟩
      all_goals cases h
  · rintro ⟨s, t, hs, ht, rfl⟩
    simp [stepInstance, hs, ht]

/-- The slot of an instance that exists holds what was put there. -/
theorem getElem?_set_of_instance {k : Nat} {cores : List State} {s : State} (hs : cores[k]? = some s) (t : State) :
    (cores.set k t)[k]? = some t :=
  List.getElem?_set_self (List.getElem?_eq_some_iff.mp hs).1

/-- Settles O58: a step that answers is `cores.set k t` with `step s = .next t`, which leaves the other slots as they
are, and whose `t` depends on the state in slot `k` alone. -/
theorem instancesShareNothing : Obligations.InstancesShareNothing := by
  unfold Obligations.InstancesShareNothing
  intro k cores
  constructor
  · intro s t hs ht
    exact stepInstance_eq_next_iff.mpr ⟨s, t, hs, ht, rfl⟩
  · intro cores' h
    obtain ⟨s, t, hs, ht, rfl⟩ := stepInstance_eq_next_iff.mp h
    refine ⟨List.length_set, fun j hj => List.getElem?_set_ne hj.symm,
      ⟨s, t, hs, ht, getElem?_set_of_instance hs t⟩, fun others hk => ?_⟩
    have hos : others[k]? = some s := hk.trans hs
    exact ⟨others.set k t, stepInstance_eq_next_iff.mpr ⟨s, t, hos, ht, rfl⟩,
      (getElem?_set_of_instance hos t).trans (getElem?_set_of_instance hs t).symm⟩

end Sys2Proof.Proofs
end

section
/-! PROOFS. Byte order (20_memory.md R62, R64): the little-endian fields of a CBW give O7, the two big-endian fields of
the format-capacities payload give O23. -/

namespace Sys2Proof.Proofs

open Sys2Proof.Machine

/-- The value read at an offset weighs the byte there least (R62). -/
theorem readLE32_toNat {n : Nat} (buf : Buf n) (off : Nat) (h : off + 3 < n) :
    (readLE32 buf off h).toNat =
      buf[off].toNat + 2 ^ 8 * buf[off + 1].toNat + 2 ^ 16 * buf[off + 2].toNat + 2 ^ 24 * buf[off + 3].toNat :=
  le32_toNat ..

/-- Settles O7: the 32-bit fields are reads by `readLE32`, the others single bytes or `read4`. -/
theorem cbwFieldsAreLittleEndian : Obligations.CbwFieldsAreLittleEndian := by
  unfold Obligations.CbwFieldsAreLittleEndian
  intro buf
  have htag := readLE32_toNat buf 4 (by decide)
  have hdtl := readLE32_toNat buf 8 (by decide)
  have hsig := readLE32_toNat buf 0 (by decide)
  exact ⟨htag, hdtl, hsig, rfl, rfl, rfl, rfl, rfl⟩

/-- Bytes 4 to 7 of the payload hold the block count, most significant byte first (R64). -/
theorem fcPayload_blockCount (bc bs : Word32) :
    2 ^ 24 * (fcPayload bc bs)[4].toNat + 2 ^ 16 * (fcPayload bc bs)[5].toNat + 2 ^ 8 * (fcPayload bc bs)[6].toNat +
      (fcPayload bc bs)[7].toNat = bc.toNat := by
  simp only [fcPayload_eq, Vector.getElem_mk, List.getElem_toArray, List.getElem_cons_succ, List.getElem_cons_zero,
    extractLsb'_toNat_byte]
  have := bc.isLt
  omega

/-- Bytes 9 to 11 of the payload hold the low 24 bits of the block size, most significant byte first (R64, R98; D21). -/
theorem fcPayload_blockSize (bc bs : Word32) :
    2 ^ 16 * (fcPayload bc bs)[9].toNat + 2 ^ 8 * (fcPayload bc bs)[10].toNat + (fcPayload bc bs)[11].toNat =
      bs.toNat % 2 ^ 24 := by
  simp only [fcPayload_eq, Vector.getElem_mk, List.getElem_toArray, List.getElem_cons_succ, List.getElem_cons_zero,
    extractLsb'_toNat_byte]
  omega

/-- READ FORMAT CAPACITIES answers with its payload in `fcBuf`, whatever the direction (R192). -/
theorem exec_readFormatCapacities_fcBuf (s : State) (bc bs : Word32) :
    ∃ t, exec (.readFormatCapacities bc bs) s = .next t ∧ t.fcBuf = fcPayload bc bs :=
  ⟨_, rfl, answer_fcBuf ..⟩

/-- Settles O23: `fcBuf` holds the payload, and a size below 2^24 is its own low 24 bits. -/
theorem formatCapacitiesIsBigEndian : Obligations.FormatCapacitiesIsBigEndian := by
  unfold Obligations.FormatCapacitiesIsBigEndian
  intro s bc bs hbs
  obtain ⟨t, ht, hbuf⟩ := exec_readFormatCapacities_fcBuf s bc bs
  refine ⟨t, ht, ?_⟩
  rw [hbuf]
  have hsize := fcPayload_blockSize bc bs
  rw [Nat.mod_eq_of_lt hbs] at hsize
  exact ⟨(fcPayload_blockCount bc bs).symm, hsize.symm⟩

end Sys2Proof.Proofs
end

section
/-! PROOFS. The control requests (43_control_requests.md R221): what GET_MAX_LUN does, and O36 from it. -/

namespace Sys2Proof.Proofs

open Sys2Proof.Machine

/-- GET_MAX_LUN sends the one reply `MAX_LUN = 0` and does nothing else, in any phase (R100, R221). -/
theorem exec_getMaxLun (s : State) : exec .getMaxLun s = .next (s.emit (.ctrlReply [0x00#8])) := rfl

/-- Settles O36: the emitted reply is the request that joins the outputs. -/
theorem getMaxLunAnswersZero : Obligations.GetMaxLunAnswersZero := by
  unfold Obligations.GetMaxLunAnswersZero
  intro s
  exact ⟨s.emit (.ctrlReply [0x00#8]), exec_getMaxLun s, State.emit_out s _⟩

end Sys2Proof.Proofs
end

section
/-! PROOFS. The transmit completions of a transaction (40_protocol_state_machine.md R134, R135): what TX_COMPLETE does in
`DataIn` and in `SendingStatus`, and O28 and O30 from it. -/

namespace Sys2Proof.Proofs

open Sys2Proof.Machine

/-- In `DataIn` the completed transmit is the payload's, and the CSW follows it (R134). -/
theorem exec_txComplete_of_dataIn {s : State} (h : s.phase = .dataIn) :
    exec .txComplete s = .next s.retire.sendStatus := by
  simp [exec, execTxComplete, h]

/-- In `SendingStatus` the completed transmit is the CSW's, and a new receive follows it (R135). -/
theorem exec_txComplete_of_sendingStatus {s : State} (h : s.phase = .sendingStatus) :
    exec .txComplete s = .next (s.retire.armReceive.goto .idle) := by
  simp [exec, execTxComplete, h]

/-- The four bytes that `read4` takes at an offset (R11). -/
theorem read4_eq {n : Nat} (buf : Buf n) (off : Nat) (h : off + 3 < n) :
    read4 buf off h = #v[buf[off], buf[off + 1], buf[off + 2], buf[off + 3]] := rfl

/-- Settles O28: the next state is that of `sendStatus`, whose CSW echoes the tag at offset 4 of `cbw`; retiring the
payload's transmit touches neither the operands of that CSW nor the outputs. -/
theorem dataCompletionSendsTheStatus : Obligations.DataCompletionSendsTheStatus := by
  unfold Obligations.DataCompletionSendsTheStatus
  intro s hphase
  refine ⟨s.retire.sendStatus, exec_txComplete_of_dataIn hphase, ?_⟩
  simp [sendStatus_eq, read4_eq, Config.cswLen]

/-- Settles O30: the armed receive replaces the retired transmit as the outstanding transfer. -/
theorem statusCompletionArmsTheReceive : Obligations.StatusCompletionArmsTheReceive := by
  unfold Obligations.StatusCompletionArmsTheReceive
  intro s hphase
  rw [exec_txComplete_of_sendingStatus hphase, armReceive_eq]
  rfl

end Sys2Proof.Proofs
end

section
/-! PROOFS. The framing errors of a receive (41_envelope_codec.md R171, R172; 60_exceptions.md R242): the envelopes that
the CBW decoder rejects, the one thing RX_COMPLETE does with them all, and O11 and O12 from it. -/

namespace Sys2Proof.Proofs

open Sys2Proof.Machine

/-- The length is checked before the bytes are looked at (R171). -/
theorem decodeCBW_of_length_ne {n : Word32} (buf : Buf 31) (h : n.toNat ≠ 31) :
    decodeCBW n buf = .error (.fLength n) :=
  if_pos h

/-- A whole envelope is rejected for its signature, which is reported as read (R172). -/
theorem decodeCBW_of_signature_ne {buf : Buf 31} (h : signature buf ≠ Config.magicA) :
    decodeCBW 31#32 buf = .error (.fSignature (signature buf)) := by
  simp [decodeCBW, h, Config.cbwLen]

/-- The signature of a received envelope is its first four bytes, whatever `cbw` held before (R69, R91). -/
theorem signature_receiveInto_envelope (cbw : Buf 31) (b0 b1 b2 b3 : Byte) {tail : List Byte} (h : tail.length = 27) :
    signature (receiveInto cbw 31#32 (b0 :: b1 :: b2 :: b3 :: tail)) = le32 b0 b1 b2 b3 := by
  have hu : (b0 :: b1 :: b2 :: b3 :: tail).toArray.size = 31 := by simp [h]
  have hrecv : receiveInto cbw 31#32 (b0 :: b1 :: b2 :: b3 :: tail) = ⟨_, hu⟩ := receiveInto_whole cbw _ _ rfl
  rw [hrecv]
  rfl

/-- In `Idle` an envelope that the decoder rejects ends the receive and enters `Error` (R132, R242). -/
theorem exec_rxComplete_of_decodeCBW_error {s : State} {n : Word32} {data : List Byte} {c : Cause} (bc bs : Word32)
    (hphase : s.phase = .idle) (hc : decodeCBW n (receiveInto s.cbw n data) = .error c) :
    exec (.rxComplete n data bc bs) s = .next ((s.retire.receive n data).raiseFraming c) := by
  have hcbw : decodeCBW n (s.retire.receive n data).cbw = .error c := hc
  calc exec (.rxComplete n data bc bs) s
    _ = handleEnvelope n bc bs (s.retire.receive n data) := execRxComplete_idle hphase n data bc bs
    _ = .next ((s.retire.receive n data).raiseFraming c) := by simp only [handleEnvelope, hcbw]

/-- Every framing error has the same outcome but for its cause: the bulk-OUT endpoint is stalled, and no CSW is built
(R242, R243). -/
theorem framingError_stalls_out {s : State} {n : Word32} {data : List Byte} {c : Cause} (bc bs : Word32)
    (hphase : s.phase = .idle) (hc : decodeCBW n (receiveInto s.cbw n data) = .error c) :
    ∃ t, exec (.rxComplete n data bc bs) s = .next t ∧
      t.phase = .error ∧ t.out = s.out ++ [.stall .epOut] ∧ t.cause = some c ∧
      t.csw = s.csw ∧ t.fcBuf = s.fcBuf ∧ t.resLatch = s.resLatch ∧ t.stsLatch = s.stsLatch ∧
      t.outstanding = none := by
  refine ⟨_, exec_rxComplete_of_decodeCBW_error bc bs hphase hc, ?_⟩
  simp [raiseFraming_eq]

/-- Settles O12: the decoder rejects the signature that the receive has left in `cbw`. -/
theorem wrongSignatureStallsOut : Obligations.WrongSignatureStallsOut := by
  unfold Obligations.WrongSignatureStallsOut
  intro s b0 b1 b2 b3 tail bc bs hphase htail hne
  have hsig := signature_receiveInto_envelope s.cbw b0 b1 b2 b3 htail
  have hdec := decodeCBW_of_signature_ne (hsig.trans_ne hne)
  rw [hsig] at hdec
  exact framingError_stalls_out bc bs hphase hdec

/-- Settles O11: the decoder rejects the length, whatever the receive has left in `cbw`. -/
theorem wrongLengthStallsOut : Obligations.WrongLengthStallsOut := by
  unfold Obligations.WrongLengthStallsOut
  intro s n data bc bs hphase hn
  exact framingError_stalls_out bc bs hphase (decodeCBW_of_length_ne _ hn)

end Sys2Proof.Proofs
end

section
/-! PROOFS. The payload of an accepted device-to-host command (42_command_dispatcher.md R195 to R197): what the `In` plan
sends and latches for any payload source, and O21 and O22 from it. -/

namespace Sys2Proof.Proofs

open Sys2Proof.Machine

/-- The residue is zero exactly when the payload fills the host's length (R196). -/
theorem residueOf_eq_zero_iff (dtl : Word32) (plen : Nat) : residueOf dtl plen = 0#32 ↔ dtl.toNat ≤ plen := by
  have hres := residueOf_toNat dtl plen
  rw [← BitVec.toNat_inj, BitVec.toNat_ofNat]
  omega

/-- Cutting a payload to its transmit length is cutting it to the host's length (R195). -/
theorem take_txLength (dtl : Word32) (payload : List Byte) :
    payload.take (txLength dtl payload.length) = payload.take dtl.toNat :=
  List.take_eq_take_min.symm

/-- Accepting a device-to-host command leaves every space a payload can come from as it is (R194). -/
theorem answer_accepted_in_bytes (s : State) (f : Fields) (src : Space) (plen : Nat) (h : f.dirIn = true) :
    (s.answer f (.accepted src plen)).bytes = s.bytes := by
  rw [answer_accepted_in s f src plen h]
  funext space
  cases space <;> rfl

/-- An accepted device-to-host command whose payload is the whole space `src` sends it cut to the host's length,
latches what the host asked for beyond it, and passes (R195, R196, R197). -/
theorem answer_accepted_in_sends {s : State} {f : Fields} {src : Space} {plen : Nat} (h : f.dirIn = true)
    (hlen : (s.bytes src).length = plen) {t : State} (ht : t = s.answer f (.accepted src plen)) :
    t.phase = .dataIn ∧
      t.out = s.out ++ [.startTransmit src (min f.dtl.toNat plen)] ∧
      t.sent (.startTransmit src (min f.dtl.toNat plen)) = (s.bytes src).take f.dtl.toNat ∧
      t.resLatch.toNat = f.dtl.toNat - min f.dtl.toNat plen ∧
      (t.resLatch = 0#32 ↔ f.dtl.toNat ≤ plen) ∧
      t.stsLatch = 0x00#8 := by
  subst hlen ht
  have hsent : (s.answer f (.accepted src (s.bytes src).length)).sent
      (.startTransmit src (txLength f.dtl (s.bytes src).length)) = (s.bytes src).take f.dtl.toNat := by
    rw [State.sent, answer_accepted_in_bytes s f src _ h, take_txLength]
  rw [answer_accepted_in s f src _ h] at hsent ⊢
  exact ⟨rfl, rfl, hsent, residueOf_toNat .., residueOf_eq_zero_iff .., rfl⟩

/-- Settles O21: the payload is the whole of `INQ_DATA`. -/
theorem inquirySendsTheTruncatedPayload : Obligations.InquirySendsTheTruncatedPayload := by
  unfold Obligations.InquirySendsTheTruncatedPayload
  intro s hdir
  exact ⟨_, rfl, answer_accepted_in_sends (src := .inqData) hdir rfl rfl⟩

/-- Settles O22: the payload is the whole of `fcBuf`, just written, and writing it touches neither the outputs nor the
command in `cbw`. -/
theorem formatCapacitiesSendsTheTruncatedPayload : Obligations.FormatCapacitiesSendsTheTruncatedPayload := by
  unfold Obligations.FormatCapacitiesSendsTheTruncatedPayload
  intro s bc bs hdir
  have hlen : ((s.writeFcBuf (fcPayload bc bs)).bytes .fcBuf).length = 12 := Vector.length_toList
  exact ⟨_, rfl, answer_accepted_in_sends hdir hlen rfl⟩

end Sys2Proof.Proofs
end

section
/-! PROOFS. The instruction encodings (30_encoding.md sections 4 to 6): the decoder undoes the encoder and the encoder
the decoder (O2, O3), which codes name an event, a request or a phase (O1, O4, O5, O6), and what a step does with a
frame that names none. -/

namespace Sys2Proof.Proofs

open Sys2Proof.Machine

/-- The frame of a receive completion of any length decodes to it (R103; log entry 5). -/
theorem decodeFrame_encode_rxComplete {n : Word32} {data : List Byte} (bc bs : Word32)
    (h : data.length = rxDataLen n) :
    decodeFrame (encode (.rxComplete n data bc bs)) = .ok (.rxComplete n data bc bs) := by
  have hargs := decodeRxArgs_encoded n data bc bs [] h
  rw [List.append_nil] at hargs
  have hfront : decodeFront (encode (.rxComplete n data bc bs)) = .ok (.rxComplete n data bc bs, []) := hargs
  rw [decodeFrame, hfront]

/-- An opcode that is neither `OPC_INQUIRY` nor `OPC_RFC` is the one of an unsupported command (R104). -/
theorem decodeOpcode_of_ne {opc : Byte} (bc bs : Word32) (hinq : opc ≠ Config.opcInquiry)
    (hrfc : opc ≠ Config.opcRfc) : decodeOpcode opc bc bs = .unsupported opc := by
  rw [decodeOpcode, if_neg hinq, if_neg hrfc]

/-- Settles O2, row by row: the events without arguments and the two fixed opcodes are single bytes, RX_COMPLETE carries
the bytes its length asks for, and a well-formed UNSUPPORTED carries no supported opcode. -/
theorem decodeOfEncodeIsTheInstruction : Obligations.DecodeOfEncodeIsTheInstruction := by
  unfold Obligations.DecodeOfEncodeIsTheInstruction
  intro i hwf
  cases i with
  | powerOnReset | txComplete | transportFault | classReset | getMaxLun | inquiry | readFormatCapacities => rfl
  | rxComplete n data bc bs => exact decodeFrame_encode_rxComplete bc bs (beq_iff_eq.mp hwf)
  | unsupported opc =>
    have hne : opc ≠ Config.opcInquiry ∧ opc ≠ Config.opcRfc := by simpa [Instr.wellFormed] using hwf
    exact congrArg Except.ok (decodeOpcode_of_ne _ _ hne.1 hne.2)

/-- Settles O3: each case of what a frame decodes to shows the frame as the encoding. -/
theorem encodeOfDecodeIsTheFrame : Obligations.EncodeOfDecodeIsTheFrame := by
  unfold Obligations.EncodeOfDecodeIsTheFrame
  intro frame i h
  rcases decodeFrame_cases h with ⟨rfl, rfl⟩ | ⟨n, data, bc, bs, rfl, hlen, rfl⟩ | ⟨rfl, rfl⟩ | ⟨rfl, rfl⟩ |
    ⟨rfl, rfl⟩ | ⟨rfl, rfl⟩
  case inr.inl => exact ⟨beq_iff_eq.mpr hlen, rfl, rfl⟩
  all_goals exact ⟨rfl, rfl, rfl⟩

/-- Settles O1: nine words of the encoding tables, decoded. -/
theorem writtenOutWordsDecode : Obligations.WrittenOutWordsDecode := by
  unfold Obligations.WrittenOutWordsDecode
  refine ⟨?_, ?_, ?_, ?_, ?_, ?_, ?_, ?_, ?_⟩ <;> decide

/-- A code byte outside 0x01 to 0x06 names no event, whatever follows it (R103). -/
theorem decodeFrame_noSuchEvent {code : Byte} (args : List Byte) (h : code = 0x00#8 ∨ 0x07 ≤ code.toNat) :
    decodeFrame (code :: args) = .error (.noSuchEvent code) := by
  have hne : ∀ event : Byte, 0x01 ≤ event.toNat → event.toNat ≤ 0x06 → code ≠ event := by
    rintro event hlow hhigh rfl
    rcases h with rfl | h
    · simp at hlow
    · omega
  have hfront : decodeFront (code :: args) = .error (.noSuchEvent code) := by
    simp only [decodeFront]
    rw [if_neg (hne 0x01#8 (by decide) (by decide)), if_neg (hne 0x02#8 (by decide) (by decide)),
      if_neg (hne 0x03#8 (by decide) (by decide)), if_neg (hne 0x04#8 (by decide) (by decide)),
      if_neg (hne 0x05#8 (by decide) (by decide)), if_neg (hne 0x06#8 (by decide) (by decide))]
  rw [decodeFrame, hfront]

/-- A pending frame that does not decode is refused with the decoder's reason (R103; U11). -/
theorem step_of_undecodable {s : State} {frame : Frame} {rest : List Frame} {e : DecodeError}
    (hin : s.inbox = frame :: rest) (hd : decodeFrame frame = .error e) : step s = .refused (.undecodable e) := by
  simp [step, fetch, hin, hd]

/-- Settles O4. -/
theorem codesThatNameNoEventAreRefused : Obligations.CodesThatNameNoEventAreRefused := by
  unfold Obligations.CodesThatNameNoEventAreRefused
  intro s code args rest hin hcode
  exact step_of_undecodable hin (decodeFrame_noSuchEvent args hcode)

/-- Settles O5: the request decoder compares the code with its two and answers nothing for the rest. -/
theorem controlRequestsAreTheTwo : Obligations.ControlRequestsAreTheTwo := by
  unfold Obligations.ControlRequestsAreTheTwo
  refine ⟨rfl, rfl, fun r hlun hreset => ?_⟩
  exact (if_neg hlun).trans (if_neg hreset)

/-- Settles O6: one code per phase, and the eight codes of three bits one by one. -/
theorem phaseCodesAreDistinct : Obligations.PhaseCodesAreDistinct := by
  unfold Obligations.PhaseCodesAreDistinct
  refine ⟨fun p => ?_, ?_⟩
  · cases p <;> rfl
  · decide

end Sys2Proof.Proofs
end

section
/-! PROOFS. The wrappers' round trips (41_envelope_codec.md R177) and the status codes (30_encoding.md R97): O8, O9 and
O10. -/

namespace Sys2Proof.Proofs

open Sys2Proof.Machine

/-- The wrapper of a whole command block of 16 bytes is 31 bytes long (R90, R109). -/
theorem length_cbwBytes (tag dtl : Word32) (flags lun cbl : Byte) {block : List Byte} (h : block.length = 16) :
    (cbwBytes tag dtl flags lun cbl block).length = 31 := by
  simp [cbwBytes, h]

/-- The fields of a buffer that holds the wrapper of `tag`, `dtl` and the rest, each at its offset (R90, R173). -/
theorem fields_cbwBytes {u : Buf 31} {tag dtl : Word32} {flags lun cbl c0 : Byte} {cb : List Byte}
    (h : u.toList = cbwBytes tag dtl flags lun cbl (c0 :: cb)) :
    signature u = Config.magicA ∧
      fields u = { tagB := bytesLE32 tag, tag := tag, dtl := dtl, dirIn := flags.getLsbD 7, lun := lun, cbl := cbl,
                   opcode := c0 } := by
  obtain ⟨⟨bytes⟩, hsize⟩ := u
  change bytes = _ at h
  subst h
  refine ⟨le32_bytesLE32 Config.magicA, ?_⟩
  calc fields ⟨⟨cbwBytes tag dtl flags lun cbl (c0 :: cb)⟩, hsize⟩
    _ = { tagB := bytesLE32 tag
          tag := le32 (tag.extractLsb' 0 8) (tag.extractLsb' 8 8) (tag.extractLsb' 16 8) (tag.extractLsb' 24 8)
          dtl := le32 (dtl.extractLsb' 0 8) (dtl.extractLsb' 8 8) (dtl.extractLsb' 16 8) (dtl.extractLsb' 24 8)
          dirIn := flags.getLsbD 7, lun := lun, cbl := cbl, opcode := c0 } := rfl
    _ = _ := by rw [le32_bytesLE32, le32_bytesLE32]

/-- Settles O8: a receive of 31 bytes replaces the whole buffer, which then is the wrapper. -/
theorem cbwRoundTripsThroughTheBuffer : Obligations.CbwRoundTripsThroughTheBuffer := by
  unfold Obligations.CbwRoundTripsThroughTheBuffer
  intro old tag dtl flags lun cbl c0 cb hcb
  have hlen := length_cbwBytes tag dtl flags lun cbl (block := c0 :: cb) (by simp [hcb])
  have hrecv : receiveInto old 31#32 (cbwBytes tag dtl flags lun cbl (c0 :: cb)) = ⟨⟨_⟩, hlen⟩ :=
    receiveInto_whole old _ _ rfl
  obtain ⟨hsig, hfields⟩ := fields_cbwBytes (u := ⟨⟨_⟩, hlen⟩) rfl
  rw [hrecv, decodeCBW_valid _ hsig, hfields]

/-- Settles O9: the 13 bytes written out, read back at their places. -/
theorem cswRoundTrips : Obligations.CswRoundTrips := by
  unfold Obligations.CswRoundTrips
  intro tagB residue status
  have hsig : le32 0x55#8 0x53#8 0x42#8 0x53#8 = Config.magicB := by decide
  calc cswFields (encodeCSW tagB residue status)
    _ = { signature := le32 0x55#8 0x53#8 0x42#8 0x53#8
          tagB := #v[tagB[0], tagB[1], tagB[2], tagB[3]]
          residue := le32 (residue.extractLsb' 0 8) (residue.extractLsb' 8 8) (residue.extractLsb' 16 8)
            (residue.extractLsb' 24 8)
          status := status } := by rw [encodeCSW_eq]; rfl
    _ = _ := by rw [hsig, ← buf4_eq, le32_bytesLE32]

/-- Settles O10: a code of 3 or more is none of the three. -/
theorem statusCodesRead : Obligations.StatusCodesRead := by
  unfold Obligations.StatusCodesRead
  refine ⟨rfl, rfl, rfl, fun c hc => ?_⟩
  have hne : ∀ code : Byte, code.toNat ≤ 2 → c ≠ code := by
    rintro code hcode rfl
    omega
  rw [statusOf, if_neg (hne _ (by decide)), if_neg (hne _ (by decide)), if_neg (hne _ (by decide))]

end Sys2Proof.Proofs
end

section
/-! PROOFS. What an instruction can do, said once: the dispatcher's verdict and the state it leaves (R190 to R199), and
the relation `Effect`, which lists every outcome of `exec` as the composed operation it ends in. -/

namespace Sys2Proof.Proofs

open Sys2Proof.Machine

/-- The dispatcher's verdict on an opcode (R190 to R193). -/
def opcodeVerdict (opc : Byte) : Verdict :=
  if opc = Config.opcInquiry then .accepted .inqData Config.inqLen
  else if opc = Config.opcRfc then .accepted .fcBuf Config.fcLen
  else .rejected (.cOpcode opc)

/-- The verdict on a valid envelope: its content is checked before its opcode (R132, R174). -/
def envelopeVerdict (f : Fields) : Verdict :=
  if meaningful f then opcodeVerdict f.opcode else .rejected (failCause f)

/-- The dispatcher builds a payload in `fcBuf` alone, where that is the source it accepts (R191 to R193). -/
def buildPayload (s : State) (bc bs : Word32) : Verdict → State
  | .accepted src _ => if src = .fcBuf then s.writeFcBuf (fcPayload bc bs) else s
  | .rejected _ => s

/-- The answer to the command in `cbw` on a verdict, with the storage inputs of the step (R132, R190). -/
def serve (s : State) (bc bs : Word32) (v : Verdict) : State :=
  (buildPayload s bc bs v).answer (fields s.cbw) v

/-! ### Verdicts -/

/-- A verdict the dispatcher can give: what it accepts is the whole of a payload source (R190 to R193). -/
def Deliverable (v : Verdict) : Prop :=
  ∀ src plen, v = .accepted src plen → (src = .inqData ∨ src = .fcBuf) ∧ plen = src.size

theorem deliverable_inquiry : Deliverable (.accepted .inqData Config.inqLen) := by
  rintro _ _ ⟨⟩
  exact ⟨.inl rfl, rfl⟩

theorem deliverable_formatCapacities : Deliverable (.accepted .fcBuf Config.fcLen) := by
  rintro _ _ ⟨⟩
  exact ⟨.inr rfl, rfl⟩

theorem deliverable_rejected (c : Cause) : Deliverable (.rejected c) := by
  rintro _ _ ⟨⟩

theorem deliverable_opcodeVerdict (opc : Byte) : Deliverable (opcodeVerdict opc) := by
  unfold opcodeVerdict
  split
  · exact deliverable_inquiry
  split
  · exact deliverable_formatCapacities
  · exact deliverable_rejected _

theorem deliverable_envelopeVerdict (f : Fields) : Deliverable (envelopeVerdict f) := by
  unfold envelopeVerdict
  split
  · exact deliverable_opcodeVerdict _
  · exact deliverable_rejected _

theorem envelopeVerdict_of_meaningful {f : Fields} (h : meaningful f = true) :
    envelopeVerdict f = opcodeVerdict f.opcode :=
  if_pos h

theorem envelopeVerdict_of_not_meaningful {f : Fields} (h : meaningful f = false) :
    envelopeVerdict f = .rejected (failCause f) := by
  simp [envelopeVerdict, h]

theorem opcodeVerdict_of_ne {opc : Byte} (hinq : opc ≠ Config.opcInquiry) (hrfc : opc ≠ Config.opcRfc) :
    opcodeVerdict opc = .rejected (.cOpcode opc) := by
  rw [opcodeVerdict, if_neg hinq, if_neg hrfc]

/-- Only a meaningful envelope is accepted (R174). -/
theorem meaningful_of_envelopeVerdict_accepted {f : Fields} {src : Space} {plen : Nat}
    (h : envelopeVerdict f = .accepted src plen) : meaningful f = true := by
  by_contra hm
  rw [envelopeVerdict_of_not_meaningful (by simpa using hm)] at h
  cases h

/-- `fcBuf` is the payload source of READ FORMAT CAPACITIES alone (R192). -/
theorem opcode_of_envelopeVerdict_fcBuf {f : Fields} {plen : Nat} (h : envelopeVerdict f = .accepted .fcBuf plen) :
    f.opcode = Config.opcRfc := by
  rw [envelopeVerdict_of_meaningful (meaningful_of_envelopeVerdict_accepted h), opcodeVerdict] at h
  split at h
  · cases h
  split at h
  · assumption
  · cases h

/-! ### The state a verdict leaves -/

/-- Building a payload touches `fcBuf` and the race mark alone (R34, R276). -/
theorem buildPayload_frame (s : State) (bc bs : Word32) (v : Verdict) :
    buildPayload s bc bs v =
      { s with fcBuf := (buildPayload s bc bs v).fcBuf, race := (buildPayload s bc bs v).race } := by
  cases v with
  | rejected c => rfl
  | accepted src plen => cases src <;> rfl

/-- A rejected command fails, with its whole length as residue (R194, R198). -/
theorem serve_rejected (s : State) (bc bs : Word32) (c : Cause) :
    serve s bc bs (.rejected c) = { s with
      phase := .sendingStatus
      resLatch := (fields s.cbw).dtl
      stsLatch := statusFailed
      csw := encodeCSW (fields s.cbw).tagB (fields s.cbw).dtl statusFailed
      out := s.out ++ [.startTransmit .csw Config.cswLen]
      outstanding := some (.transmit .csw Config.cswLen)
      cause := some c
      race := s.race || s.abandoned.contains .csw } :=
  answer_rejected s (fields s.cbw) c

/-- An accepted device-to-host command sends its payload cut to the host's length (R194 to R197). -/
theorem serve_accepted_in (s : State) (bc bs : Word32) (src : Space) (plen : Nat)
    (h : (fields s.cbw).dirIn = true) :
    serve s bc bs (.accepted src plen) = { s with
      phase := .dataIn
      resLatch := residueOf (fields s.cbw).dtl plen
      stsLatch := statusPassed
      out := s.out ++ [.startTransmit src (txLength (fields s.cbw).dtl plen)]
      outstanding := some (.transmit src (txLength (fields s.cbw).dtl plen))
      fcBuf := (buildPayload s bc bs (.accepted src plen)).fcBuf
      race := (buildPayload s bc bs (.accepted src plen)).race } := by
  rw [serve, answer_accepted_in _ _ _ _ h, buildPayload_frame]

/-- An accepted host-to-device command enters the hold (R194, R199). -/
theorem serve_accepted_out (s : State) (bc bs : Word32) (src : Space) (plen : Nat)
    (h : (fields s.cbw).dirIn = false) :
    serve s bc bs (.accepted src plen) = { s with
      phase := .dataOut
      extension := true
      fcBuf := (buildPayload s bc bs (.accepted src plen)).fcBuf
      race := (buildPayload s bc bs (.accepted src plen)).race } := by
  rw [serve, answer_accepted_out _ _ _ _ h, buildPayload_frame]

/-- The three plans (R194), for a case split on what a verdict on the command `f` leaves. -/
theorem plan_cases (f : Fields) (v : Verdict) :
    (∃ c, v = .rejected c) ∨
    (∃ src plen, v = .accepted src plen ∧ f.dirIn = true) ∨
    ∃ src plen, v = .accepted src plen ∧ f.dirIn = false := by
  cases v with
  | rejected c => exact .inl ⟨c, rfl⟩
  | accepted src plen =>
    cases hdir : f.dirIn with
    | true => exact .inr (.inl ⟨src, plen, rfl, rfl⟩)
    | false => exact .inr (.inr ⟨src, plen, rfl, rfl⟩)

/-! ### The commands and the envelope -/

/-- The dispatcher's row for an opcode answers with the opcode's verdict (R190). -/
theorem exec_decodeOpcode (opc : Byte) (bc bs : Word32) (s : State) :
    exec (decodeOpcode opc bc bs) s = .next (serve s bc bs (opcodeVerdict opc)) := by
  unfold decodeOpcode opcodeVerdict
  split
  · rfl
  split <;> rfl

/-- A valid envelope in `Idle` ends the receive and is answered with its verdict (R132). -/
theorem exec_rxComplete_of_decodeCBW_ok {s : State} {n : Word32} {data : List Byte} {f : Fields} (bc bs : Word32)
    (hphase : s.phase = .idle) (hf : decodeCBW n (receiveInto s.cbw n data) = .ok f) :
    exec (.rxComplete n data bc bs) s = .next (serve (s.retire.receive n data) bc bs (envelopeVerdict f)) := by
  have hcbw : decodeCBW n (s.retire.receive n data).cbw = .ok f := hf
  have hfields : f = fields (s.retire.receive n data).cbw := (decodeCBW_ok hcbw).2.2
  calc exec (.rxComplete n data bc bs) s
    _ = handleEnvelope n bc bs (s.retire.receive n data) := execRxComplete_idle hphase n data bc bs
    _ = .next (serve (s.retire.receive n data) bc bs (envelopeVerdict f)) := by
      simp only [handleEnvelope, hcbw, envelopeVerdict]
      split
      · rw [dispatchCommand_eq, exec_decodeOpcode]
      · rw [hfields]; rfl

/-- A completion outside `DataIn` and `SendingStatus` is an abandoned transmit's (R136). -/
theorem exec_txComplete_of_other {s : State} (h : s.phase = .idle ∨ s.phase = .dataOut ∨ s.phase = .error) :
    exec .txComplete s = .next s.retireAbandoned := by
  rcases h with h | h | h <;> simp [exec, execTxComplete, h]

/-- Everything an instruction can do: the state it leaves, as the composed operation that the spec's rule names. -/
inductive Effect (s : State) : Instr → State → Prop where
  /-- R270. -/
  | poweredOn : Effect s .powerOnReset s.loseContents.returnToIdle
  /-- R220. -/
  | classReset : Effect s .classReset s.returnToIdle
  /-- R221. -/
  | replied : Effect s .getMaxLun (s.emit (.ctrlReply [0x00#8]))
  /-- R138. -/
  | faulted : Effect s .transportFault s.raiseTransportFault
  /-- R133. -/
  | rxIgnored {n data bc bs} (hphase : s.phase ≠ .idle) : Effect s (.rxComplete n data bc bs) s
  /-- R132, R242. -/
  | malformed {n data bc bs c} (hphase : s.phase = .idle) (hc : decodeCBW n (receiveInto s.cbw n data) = .error c) :
    Effect s (.rxComplete n data bc bs) ((s.retire.receive n data).raiseFraming c)
  /-- R132, R190. -/
  | answered {n data bc bs} (hphase : s.phase = .idle)
      (hf : decodeCBW n (receiveInto s.cbw n data) = .ok (fields (receiveInto s.cbw n data))) :
    Effect s (.rxComplete n data bc bs)
      (serve (s.retire.receive n data) bc bs (envelopeVerdict (fields (receiveInto s.cbw n data))))
  /-- R134. -/
  | dataSent (hphase : s.phase = .dataIn) : Effect s .txComplete s.retire.sendStatus
  /-- R135. -/
  | statusSent (hphase : s.phase = .sendingStatus) : Effect s .txComplete (s.retire.armReceive.goto .idle)
  /-- R136. -/
  | txIgnored (hphase : s.phase = .idle ∨ s.phase = .dataOut ∨ s.phase = .error) :
    Effect s .txComplete s.retireAbandoned
  /-- R191. -/
  | inquiry : Effect s .inquiry (serve s 0#32 0#32 (.accepted .inqData Config.inqLen))
  /-- R192. -/
  | formatCapacities {bc bs} :
    Effect s (.readFormatCapacities bc bs) (serve s bc bs (.accepted .fcBuf Config.fcLen))
  /-- R193. -/
  | unsupported {opc} : Effect s (.unsupported opc) (serve s 0#32 0#32 (.rejected (.cOpcode opc)))

/-- Every instruction answers a next state, which is one of its effects (R130). -/
theorem exec_effect (i : Instr) (s : State) : ∃ t, exec i s = .next t ∧ Effect s i t := by
  cases i with
  | powerOnReset => exact ⟨_, rfl, .poweredOn⟩
  | classReset => exact ⟨_, rfl, .classReset⟩
  | getMaxLun => exact ⟨_, rfl, .replied⟩
  | transportFault => exact ⟨_, rfl, .faulted⟩
  | inquiry => exact ⟨_, rfl, .inquiry⟩
  | readFormatCapacities => exact ⟨_, rfl, .formatCapacities⟩
  | unsupported => exact ⟨_, rfl, .unsupported⟩
  | rxComplete n data bc bs =>
    by_cases hphase : s.phase = .idle
    · cases hd : decodeCBW n (receiveInto s.cbw n data) with
      | error c => exact ⟨_, exec_rxComplete_of_decodeCBW_error bc bs hphase hd, .malformed hphase hd⟩
      | ok f =>
        obtain ⟨-, -, rfl⟩ := decodeCBW_ok hd
        exact ⟨_, exec_rxComplete_of_decodeCBW_ok bc bs hphase hd, .answered hphase hd⟩
    · exact ⟨s, execRxComplete_other hphase n data bc bs, .rxIgnored hphase⟩
  | txComplete =>
    cases hphase : s.phase with
    | dataIn => exact ⟨_, exec_txComplete_of_dataIn hphase, .dataSent hphase⟩
    | sendingStatus => exact ⟨_, exec_txComplete_of_sendingStatus hphase, .statusSent hphase⟩
    | idle => exact ⟨_, exec_txComplete_of_other (.inl hphase), .txIgnored (.inl hphase)⟩
    | dataOut => exact ⟨_, exec_txComplete_of_other (.inr (.inl hphase)), .txIgnored (.inr (.inl hphase))⟩
    | error => exact ⟨_, exec_txComplete_of_other (.inr (.inr hphase)), .txIgnored (.inr (.inr hphase))⟩

/-- The effect of an instruction that answered. -/
theorem effect_of_exec {i : Instr} {s t : State} (h : exec i s = .next t) : Effect s i t := by
  obtain ⟨t', ht', heff⟩ := exec_effect i s
  obtain rfl : t' = t := Host.Outcome.next.inj (ht'.symm.trans h)
  exact heff

/-- Settles O43. -/
theorem everyInstructionCompletes : Obligations.EveryInstructionCompletes := by
  unfold Obligations.EveryInstructionCompletes
  intro i s
  obtain ⟨t, ht, -⟩ := exec_effect i s
  exact ⟨t, ht⟩

end Sys2Proof.Proofs
end

section
/-! PROOFS. The invariant of the powered-on core (10_state.md R43, 40_protocol_state_machine.md R139): what it asks in
each phase, that every effect of an event keeps it (O51, O52, O53), and that every run meets it (O54). -/

namespace Sys2Proof.Proofs

open Sys2Proof.Machine Sys2Proof.Safety

/-! ### What the invariant asks in each phase -/

/-- In `Idle` the invariant is that the receive is armed (R43). -/
theorem inv_of_idle {s : State} (hphase : s.phase = .idle)
    (hout : s.outstanding = some (.receive .cbw Config.cbwRxMax)) : Inv s where
  outstanding := by simpa only [OutstandingFits, hphase] using hout
  command := by simp [CommandStands, hphase]
  dataPhase := by simp [DataPhaseFits, hphase]
  status := by simp [StatusFits, hphase]
  marked := by simp [ExtensionMarked, hphase]

/-- In `Error` it is that nothing is outstanding (R43). -/
theorem inv_of_error {s : State} (hphase : s.phase = .error) (hout : s.outstanding = none) : Inv s where
  outstanding := by simpa only [OutstandingFits, hphase] using hout
  command := by simp [CommandStands, hphase]
  dataPhase := by simp [DataPhaseFits, hphase]
  status := by simp [StatusFits, hphase]
  marked := by simp [ExtensionMarked, hphase]

/-- In `DataOut`: nothing outstanding, a valid CBW, and the extension mark (R43, R137). -/
theorem inv_of_dataOut {s : State} (hphase : s.phase = .dataOut) (hout : s.outstanding = none)
    (hsig : signature s.cbw = Config.magicA) (hext : s.extension = true) : Inv s where
  outstanding := by simpa only [OutstandingFits, hphase] using hout
  command := fun _ => hsig
  dataPhase := by simp [DataPhaseFits, hphase]
  status := by simp [StatusFits, hphase]
  marked := fun _ => hext

/-- In `DataIn`: the data transmit of a meaningful device-to-host command, which passes (R43, R196, R197). -/
theorem inv_of_dataIn {s : State} {src : Space} {len : Nat} (hphase : s.phase = .dataIn)
    (hout : s.outstanding = some (.transmit src len)) (hsrc : src = .inqData ∨ src = .fcBuf) (hlen : len ≤ src.size)
    (hres : s.resLatch.toNat + len = (fields s.cbw).dtl.toNat) (hsig : signature s.cbw = Config.magicA)
    (hfits : meaningful (fields s.cbw) = true ∧ (fields s.cbw).dirIn = true ∧ s.stsLatch = statusPassed) :
    Inv s where
  outstanding := by
    simp only [OutstandingFits, hphase]
    exact ⟨src, len, hout, hsrc, hlen, hres⟩
  command := fun _ => hsig
  dataPhase := fun _ => hfits
  status := by simp [StatusFits, hphase]
  marked := by simp [ExtensionMarked, hphase]

/-- In `SendingStatus`: the CSW of the tag in `cbw` and the latches is on its way (R43, R139). -/
theorem inv_of_sendingStatus {s : State} (hphase : s.phase = .sendingStatus)
    (hout : s.outstanding = some (.transmit .csw Config.cswLen)) (hsig : signature s.cbw = Config.magicA)
    (hcsw : s.csw = encodeCSW (fields s.cbw).tagB s.resLatch s.stsLatch)
    (hres : s.resLatch.toNat ≤ (fields s.cbw).dtl.toNat)
    (hsts : s.stsLatch = statusPassed ∨ s.stsLatch = statusFailed) : Inv s where
  outstanding := by simpa only [OutstandingFits, hphase] using hout
  command := fun _ => hsig
  dataPhase := by simp [DataPhaseFits, hphase]
  status := fun _ => ⟨hcsw, hres, hsts⟩
  marked := by simp [ExtensionMarked, hphase]

/-- The invariant speaks of the phase, `cbw`, `csw`, the latches, the outstanding transfer and the extension mark; the
other fields may change freely. -/
theorem inv_of_other_fields {s : State} (h : Inv s) (fcBuf : Buf 12) (abandoned : List Space) (started : Bool)
    (inbox : List Frame) (out : List Request) (cause : Option Cause) (race : Bool) (freeCtr : Nat) :
    Inv { s with fcBuf, abandoned, started, inbox, out, cause, race, freeCtr } where
  outstanding := h.outstanding
  command := h.command
  dataPhase := h.dataPhase
  status := h.status
  marked := h.marked

/-! ### The effects keep it -/

/-- A reset establishes the invariant from any state (R220, R270). -/
theorem inv_returnToIdle (s : State) : Inv s.returnToIdle := inv_of_idle rfl rfl

/-- The answer to a valid CBW, with no transfer outstanding, establishes it: a rejection in `SendingStatus`, an
acceptance in `DataIn` or `DataOut` (R132). -/
theorem inv_serve {s : State} (bc bs : Word32) {v : Verdict} (hsig : signature s.cbw = Config.magicA)
    (hout : s.outstanding = none) (hdel : Deliverable v)
    (hmeant : ∀ src plen, v = .accepted src plen → meaningful (fields s.cbw) = true) : Inv (serve s bc bs v) := by
  rcases plan_cases (fields s.cbw) v with ⟨c, rfl⟩ | ⟨src, plen, rfl, hdir⟩ | ⟨src, plen, rfl, hdir⟩
  · rw [serve_rejected]
    exact inv_of_sendingStatus rfl rfl hsig rfl le_rfl (.inr rfl)
  · obtain ⟨hsrc, hplen⟩ := hdel src plen rfl
    rw [serve_accepted_in s bc bs src plen hdir]
    exact inv_of_dataIn rfl rfl hsrc (hplen ▸ txLength_le _ _) (residueOf_add_txLength _ _) hsig
      ⟨hmeant src plen rfl, hdir, rfl⟩
  · rw [serve_accepted_out s bc bs src plen hdir]
    exact inv_of_dataOut rfl hout hsig rfl

/-- After the data transmit the CSW echoes the command that the data phase was of (R134). -/
theorem inv_sendStatus {s : State} (h : Inv s) (hphase : s.phase = .dataIn) : Inv s.retire.sendStatus := by
  have hsig : signature s.cbw = Config.magicA := h.command (.inl hphase)
  obtain ⟨-, -, hpassed⟩ := h.dataPhase hphase
  have hfits := h.outstanding
  simp only [OutstandingFits, hphase] at hfits
  obtain ⟨src, len, -, -, -, hres⟩ := hfits
  rw [sendStatus_eq]
  exact inv_of_sendingStatus rfl rfl hsig rfl (Nat.le.intro hres) (.inl hpassed)

/-- Every effect of an event keeps the invariant (R43, R139). -/
theorem inv_of_effect {i : Instr} {s t : State} (h : Inv s) (hevent : i.format = .event) (heff : Effect s i t) :
    Inv t := by
  cases heff with
  | poweredOn | classReset => exact inv_returnToIdle _
  | replied | txIgnored => exact inv_of_other_fields h ..
  | rxIgnored => exact h
  | faulted => exact inv_of_error rfl rfl
  | malformed => exact inv_of_error rfl rfl
  | answered hphase hf =>
    obtain ⟨-, hsig, -⟩ := decodeCBW_ok hf
    exact inv_serve _ _ hsig rfl (deliverable_envelopeVerdict _) fun _ _ => meaningful_of_envelopeVerdict_accepted
  | dataSent hphase => exact inv_sendStatus h hphase
  | statusSent => exact inv_of_idle rfl rfl
  | inquiry | formatCapacities | unsupported => cases hevent

/-- Everything a step can do: it waits, or it takes the oldest pending frame, which is the encoding of an event, and has
the event's effect (R130). -/
theorem step_effect {s t : State} (h : step s = .next t) :
    (s.inbox = [] ∧ t = s.begin) ∨
    ∃ rest i, s.inbox = encode i :: rest ∧ i.format = .event ∧ Effect (s.begin.setInbox rest) i t := by
  rcases step_cases h with hwait | ⟨frame, rest, i, hin, hd, -, hexec⟩
  · exact .inl hwait
  · obtain ⟨-, hevent, rfl⟩ := encodeOfDecodeIsTheFrame frame i hd
    exact .inr ⟨rest, i, hin, hevent, effect_of_exec hexec⟩

/-- Settles O51. -/
theorem resetMeetsTheInvariant : Obligations.ResetMeetsTheInvariant := by
  unfold Obligations.ResetMeetsTheInvariant
  exact inv_of_idle rfl rfl

/-- Settles O52. -/
theorem powerOnEstablishesTheInvariant : Obligations.PowerOnEstablishesTheInvariant := by
  unfold Obligations.PowerOnEstablishesTheInvariant
  intro s t h
  cases effect_of_exec h
  exact inv_returnToIdle _

/-- Settles O53: a waiting step and the beginning of a step touch no field the invariant speaks of, and what a step
takes is an event. -/
theorem stepKeepsTheInvariant : Obligations.StepKeepsTheInvariant := by
  unfold Obligations.StepKeepsTheInvariant
  intro s t hinv hstep
  rcases step_effect hstep with ⟨-, rfl⟩ | ⟨rest, i, -, hevent, heff⟩
  · exact inv_of_other_fields hinv ..
  · have hbegun : Inv (s.begin.setInbox rest) := inv_of_other_fields hinv ..
    exact inv_of_effect hbegun hevent heff

/-- Settles O54, by induction on the run. -/
theorem reachableStatesMeetTheInvariant : Obligations.ReachableStatesMeetTheInvariant := by
  unfold Obligations.ReachableStatesMeetTheInvariant
  intro s hreach
  induction hreach with
  | reset => exact resetMeetsTheInvariant
  | poweredOn h => exact powerOnEstablishesTheInvariant _ _ h
  | delivered frame _ ih => exact inv_of_other_fields ih ..
  | stepped _ hs ih => exact stepKeepsTheInvariant _ _ ih hs

end Sys2Proof.Proofs
end

section
/-! PROOFS. The requests of a step (10_state.md R40): at most one, inside its contract and with the phase it goes with;
O45, O46 and O55 from it. -/

namespace Sys2Proof.Proofs

open Sys2Proof.Machine Sys2Proof.Safety

/-- What a request issued on the way to the state `t` may be: its operands (R68, R243) and the phase it goes with
(R131). A transmit is then the outstanding transfer (R43). -/
def InContract (t : State) : Request → Prop
  | .startReceive buf maxLength => buf = .cbw ∧ maxLength = 31 ∧ t.phase = .idle
  | .startTransmit src len =>
    src ≠ .cbw ∧ len ≤ src.size ∧ t.outstanding = some (.transmit src len) ∧
      (t.phase = .dataIn ∨ t.phase = .sendingStatus)
  | .stall endpoint => endpoint = .epOut ∧ t.phase = .error
  | .ctrlReply bytes => bytes = [0x00#8]

/-- The outputs of `t` are those `before` and at most one request more, which is in its contract. -/
def AtMostOneMore (before : List Request) (t : State) : Prop :=
  t.out = before ∨ ∃ r, t.out = before ++ [r] ∧ InContract t r

/-- The answer to a command transmits a CSW or its payload, or holds (R132). -/
theorem atMostOneMore_serve (s : State) (bc bs : Word32) {v : Verdict} (hdel : Deliverable v) :
    AtMostOneMore s.out (serve s bc bs v) := by
  rcases plan_cases (fields s.cbw) v with ⟨c, rfl⟩ | ⟨src, plen, rfl, hdir⟩ | ⟨src, plen, rfl, hdir⟩
  · exact .inr ⟨_, rfl, by decide, by decide, rfl, .inr rfl⟩
  · obtain ⟨hsrc, hplen⟩ := hdel src plen rfl
    have hne : src ≠ .cbw := by rcases hsrc with rfl | rfl <;> decide
    rw [serve_accepted_in s bc bs src plen hdir]
    exact .inr ⟨_, rfl, hne, hplen ▸ txLength_le _ _, rfl, .inl rfl⟩
  · rw [serve_accepted_out s bc bs src plen hdir]
    exact .inl rfl

/-- Every instruction issues at most one request, inside its contract (R40, R68). -/
theorem atMostOneMore_of_effect {i : Instr} {s t : State} (heff : Effect s i t) : AtMostOneMore s.out t := by
  cases heff with
  | poweredOn | classReset | statusSent => exact .inr ⟨_, rfl, rfl, rfl, rfl⟩
  | replied => exact .inr ⟨_, rfl, rfl⟩
  | faulted | rxIgnored | txIgnored => exact .inl rfl
  | malformed => exact .inr ⟨_, rfl, rfl, rfl⟩
  | answered => exact atMostOneMore_serve _ _ _ (deliverable_envelopeVerdict _)
  | dataSent => exact .inr ⟨_, rfl, by decide, by decide, rfl, .inr rfl⟩
  | inquiry => exact atMostOneMore_serve _ _ _ deliverable_inquiry
  | formatCapacities => exact atMostOneMore_serve _ _ _ deliverable_formatCapacities
  | unsupported => exact atMostOneMore_serve _ _ _ (deliverable_rejected _)

/-- A step's outputs begin empty (R30), so they hold at most one request. -/
theorem step_out {s t : State} (h : step s = .next t) : t.out = [] ∨ ∃ r, t.out = [r] ∧ InContract t r := by
  rcases step_effect h with ⟨-, rfl⟩ | ⟨_, _, _, _, heff⟩
  · exact .inl rfl
  · exact atMostOneMore_of_effect heff

/-- Every request among a step's outputs is in its contract. -/
theorem inContract_of_step {s t : State} {r : Request} (h : step s = .next t) (hr : r ∈ t.out) : InContract t r := by
  rcases step_out h with hnone | ⟨r', hone, hcontract⟩
  · simp [hnone] at hr
  · obtain rfl : r = r' := by simpa [hone] using hr
    exact hcontract

/-- Settles O45. -/
theorem stepIssuesAtMostOneRequest : Obligations.StepIssuesAtMostOneRequest := by
  unfold Obligations.StepIssuesAtMostOneRequest
  intro s t h
  rcases step_out h with hnone | ⟨r, hone, -⟩
  · simp [hnone]
  · simp [hone]

/-- Settles O46: the contract of each kind of request. -/
theorem requestsStayInTheirContract : Obligations.RequestsStayInTheirContract := by
  unfold Obligations.RequestsStayInTheirContract
  intro s t r h hr
  have hcontract := inContract_of_step h hr
  cases r with
  | startReceive buf maxLength =>
    obtain ⟨rfl, rfl, -⟩ := hcontract
    exact .inr (.inl rfl)
  | startTransmit src len =>
    obtain ⟨hsrc, hlen, -⟩ := hcontract
    exact .inl ⟨src, len, rfl, hsrc, hlen⟩
  | stall endpoint =>
    obtain ⟨rfl, -⟩ := hcontract
    exact .inr (.inr (.inl rfl))
  | ctrlReply bytes =>
    obtain rfl := hcontract
    exact .inr (.inr (.inr rfl))

/-- Under the invariant a transmit of `csw` is outstanding in `SendingStatus` alone, and it is of the whole CSW (R43). -/
theorem sendingStatus_of_csw_outstanding {s : State} {len : Nat} (h : Inv s)
    (hout : s.outstanding = some (.transmit .csw len)) : s.phase = .sendingStatus ∧ len = 13 := by
  have hfits := h.outstanding
  cases hphase : s.phase <;> simp only [OutstandingFits, hphase, hout] at hfits
  case dataIn =>
    obtain ⟨src, _, heq, hsrc, -⟩ := hfits
    cases heq
    simp at hsrc
  case sendingStatus =>
    cases hfits
    exact ⟨rfl, rfl⟩
  all_goals cases hfits

/-- Settles O55: the step keeps the invariant, the transmit it issued is the outstanding one, and in the phase that it
goes with the invariant says what `csw` holds. -/
theorem everyStatusEchoesItsCommand : Obligations.EveryStatusEchoesItsCommand := by
  unfold Obligations.EveryStatusEchoesItsCommand
  intro s t len hinv hstep hsent
  have hinv' : Inv t := stepKeepsTheInvariant s t hinv hstep
  obtain ⟨-, -, hout, -⟩ := inContract_of_step hstep hsent
  obtain ⟨hphase, hlen⟩ := sendingStatus_of_csw_outstanding hinv' hout
  obtain ⟨hcsw, hres, hsts⟩ := hinv'.status hphase
  rw [hcsw, cswRoundTrips]
  exact ⟨hlen, hinv'.command (.inr (.inr hphase)), rfl, rfl, hres, hsts⟩

end Sys2Proof.Proofs
end

section
/-! PROOFS. The commands of the dispatcher (42_command_dispatcher.md R190 to R199) as whole next states: O24 to O27. -/

namespace Sys2Proof.Proofs

open Sys2Proof.Machine

/-- The bytes of the payload that no storage value reaches (R98). -/
theorem fcPayload_fixed (bc bs : Word32) :
    (fcPayload bc bs)[0] = 0x00#8 ∧ (fcPayload bc bs)[1] = 0x00#8 ∧ (fcPayload bc bs)[2] = 0x00#8 ∧
      (fcPayload bc bs)[3] = 0x08#8 ∧ (fcPayload bc bs)[8] = Config.fmtDescByte := by
  rw [fcPayload_eq]
  exact ⟨rfl, rfl, rfl, rfl, rfl⟩

/-- Settles O24. -/
theorem formatCapacitiesFillsItsBuffer : Obligations.FormatCapacitiesFillsItsBuffer := by
  unfold Obligations.FormatCapacitiesFillsItsBuffer
  intro s bc bs
  obtain ⟨t, ht, hbuf⟩ := exec_readFormatCapacities_fcBuf s bc bs
  obtain ⟨h0, h1, h2, h3, h8⟩ := fcPayload_fixed bc bs
  refine ⟨t, ht, ?_⟩
  rw [hbuf]
  exact ⟨h0, h1, h2, h3, h8, fcPayload_blockSize bc bs⟩

/-- Settles O25: both are the `In` plan, on the inquiry payload and on the one just built in `fcBuf`. -/
theorem acceptedInCommandFrame : Obligations.AcceptedInCommandFrame := by
  unfold Obligations.AcceptedInCommandFrame
  intro s bc bs hdir
  exact ⟨congrArg Host.Outcome.next (serve_accepted_in s 0#32 0#32 .inqData Config.inqLen hdir),
    congrArg Host.Outcome.next (serve_accepted_in s bc bs .fcBuf Config.fcLen hdir)⟩

/-- Settles O26: both are the `Out` plan, after the dispatcher has built what it builds in either direction. -/
theorem acceptedOutCommandHolds : Obligations.AcceptedOutCommandHolds := by
  unfold Obligations.AcceptedOutCommandHolds
  intro s bc bs hdir
  exact ⟨congrArg Host.Outcome.next (serve_accepted_out s 0#32 0#32 .inqData Config.inqLen hdir),
    congrArg Host.Outcome.next (serve_accepted_out s bc bs .fcBuf Config.fcLen hdir)⟩

/-- Settles O27: the `Fail` plan. -/
theorem unsupportedCommandIsAnsweredFailed : Obligations.UnsupportedCommandIsAnsweredFailed := by
  unfold Obligations.UnsupportedCommandIsAnsweredFailed
  intro s opc
  exact congrArg Host.Outcome.next (serve_rejected s 0#32 0#32 (.cOpcode opc))

end Sys2Proof.Proofs
end

section
/-! PROOFS. RX_COMPLETE in `Idle` (40_protocol_state_machine.md R132): what it writes, what it runs, which cause it
reports, and what of the envelope and of the storage values it reads; O13 to O20. -/

namespace Sys2Proof.Proofs

open Sys2Proof.Machine

/-! ### What answering a command leaves alone -/

/-- Answering a command touches none of these (R132). -/
theorem serve_frame (s : State) (bc bs : Word32) (v : Verdict) :
    (serve s bc bs v).cbw = s.cbw ∧ (serve s bc bs v).inbox = s.inbox ∧ (serve s bc bs v).started = s.started ∧
      (serve s bc bs v).freeCtr = s.freeCtr := by
  rcases plan_cases (fields s.cbw) v with ⟨c, rfl⟩ | ⟨src, plen, rfl, hdir⟩ | ⟨src, plen, rfl, hdir⟩
  · simp [serve_rejected]
  · simp [serve_accepted_in s bc bs src plen hdir]
  · simp [serve_accepted_out s bc bs src plen hdir]

/-- Answering a command leaves the list of abandoned transmits as it is (R43). -/
theorem serve_abandoned (s : State) (bc bs : Word32) (v : Verdict) : (serve s bc bs v).abandoned = s.abandoned := by
  rw [serve, answer_abandoned, buildPayload_frame]

/-- A rejected command changes no payload, an accepted one at most `fcBuf`, to the payload it sends (R192). -/
theorem serve_fcBuf (s : State) (bc bs : Word32) (v : Verdict) :
    (serve s bc bs v).fcBuf = s.fcBuf ∨
      (∃ plen, v = .accepted .fcBuf plen) ∧ (serve s bc bs v).fcBuf = fcPayload bc bs := by
  rw [serve, answer_fcBuf]
  cases v with
  | rejected c => exact .inl rfl
  | accepted src plen =>
    cases src with
    | fcBuf => exact .inr ⟨⟨plen, rfl⟩, rfl⟩
    | cbw | csw | inqData => exact .inl rfl

/-- `csw` is written for a rejected command alone, and it is the failed status of its whole length (R198). -/
theorem serve_csw (s : State) (bc bs : Word32) (v : Verdict) :
    (serve s bc bs v).csw = s.csw ∨
      (serve s bc bs v).phase = .sendingStatus ∧
        (serve s bc bs v).csw = encodeCSW (fields s.cbw).tagB (fields s.cbw).dtl 0x01#8 := by
  rcases plan_cases (fields s.cbw) v with ⟨c, rfl⟩ | ⟨src, plen, rfl, hdir⟩ | ⟨src, plen, rfl, hdir⟩
  · exact .inr ⟨rfl, rfl⟩
  · rw [serve_accepted_in s bc bs src plen hdir]
    exact .inl rfl
  · rw [serve_accepted_out s bc bs src plen hdir]
    exact .inl rfl

/-- The latches are written on the way to `DataIn` and to `SendingStatus` alone (R132, D16). -/
theorem serve_latches (s : State) (bc bs : Word32) (v : Verdict) :
    (serve s bc bs v).resLatch = s.resLatch ∧ (serve s bc bs v).stsLatch = s.stsLatch ∨
      ((serve s bc bs v).phase = .dataIn ∨ (serve s bc bs v).phase = .sendingStatus) := by
  rcases plan_cases (fields s.cbw) v with ⟨c, rfl⟩ | ⟨src, plen, rfl, hdir⟩ | ⟨src, plen, rfl, hdir⟩
  · exact .inr (.inr rfl)
  · rw [serve_accepted_in s bc bs src plen hdir]
    exact .inr (.inl rfl)
  · rw [serve_accepted_out s bc bs src plen hdir]
    exact .inl ⟨rfl, rfl⟩

/-- The cause a verdict rejects for, if it rejects. -/
def rejection : Verdict → Option Cause
  | .rejected c => some c
  | .accepted _ _ => none

/-- The cause a command reports is that of its rejection (R241). -/
theorem serve_cause (s : State) (bc bs : Word32) (v : Verdict) :
    (serve s bc bs v).cause = (rejection v).or s.cause := by
  rw [serve, answer_cause, buildPayload_frame]
  cases v <;> rfl

/-! ### The envelope that a receive leaves -/

/-- A whole envelope replaces `cbw` and ends the receive (R69, R132). -/
theorem receive_envelope (s : State) {u : Buf 31} {data : List Byte} (h : u.toList = data) :
    s.retire.receive 31#32 data = { s with cbw := u, outstanding := none } := by
  rw [State.receive, State.retire_cbw, receiveInto_whole s.cbw u data h]
  rfl

/-- A valid envelope in `Idle` is answered with its verdict, on the state whose `cbw` holds it (R132). -/
theorem exec_rxComplete_envelope {s : State} {u : Buf 31} {data : List Byte} (bc bs : Word32) (hphase : s.phase = .idle)
    (hu : u.toList = data) (hsig : signature u = Config.magicA) :
    exec (.rxComplete 31#32 data bc bs) s =
      .next (serve { s with cbw := u, outstanding := none } bc bs (envelopeVerdict (fields u))) := by
  have hdec : decodeCBW 31#32 (receiveInto s.cbw 31#32 data) = .ok (fields u) := by
    rw [receiveInto_whole s.cbw u data hu, decodeCBW_valid u hsig]
  rw [exec_rxComplete_of_decodeCBW_ok bc bs hphase hdec, receive_envelope s hu]

/-- A malformed envelope of 31 bytes in `Idle` enters `Error` (R242). -/
theorem exec_rxComplete_bad_signature {s : State} {u : Buf 31} {data : List Byte} (bc bs : Word32)
    (hphase : s.phase = .idle) (hu : u.toList = data) (hsig : signature u ≠ Config.magicA) :
    exec (.rxComplete 31#32 data bc bs) s =
      .next (State.raiseFraming { s with cbw := u, outstanding := none } (.fSignature (signature u))) := by
  have hdec : decodeCBW 31#32 (receiveInto s.cbw 31#32 data) = .error (.fSignature (signature u)) := by
    rw [receiveInto_whole s.cbw u data hu, decodeCBW_of_signature_ne hsig]
  rw [exec_rxComplete_of_decodeCBW_error bc bs hphase hdec, receive_envelope s hu]

/-- Whatever the envelope is, the next state's `cbw` holds what was received (R69). -/
theorem cbw_of_rxComplete {s t : State} {n : Word32} {data : List Byte} {bc bs : Word32} (hphase : s.phase = .idle)
    (heff : Effect s (.rxComplete n data bc bs) t) : t.cbw = receiveInto s.cbw n data := by
  cases heff with
  | rxIgnored hne => exact absurd hphase hne
  | malformed => rfl
  | answered => exact (serve_frame _ _ _ _).1

/-- Settles O13. -/
theorem receiveWritesItsBytes : Obligations.ReceiveWritesItsBytes := by
  unfold Obligations.ReceiveWritesItsBytes
  intro s n data bc bs hphase hlen
  obtain ⟨t, ht, heff⟩ := exec_effect (.rxComplete n data bc bs) s
  refine ⟨t, ht, fun k hk => ?_⟩
  simp only [cbw_of_rxComplete hphase heff]
  exact getElem_receiveInto s.cbw n data hlen k hk

/-- Settles O14: for a meaningful envelope both are the answer to the opcode's verdict. -/
theorem acceptedEnvelopeRunsItsCommand : Obligations.AcceptedEnvelopeRunsItsCommand := by
  unfold Obligations.AcceptedEnvelopeRunsItsCommand
  intro s data bc bs u hphase hu hsig hmeant
  have hrx := exec_rxComplete_envelope bc bs hphase hu hsig
  rw [envelopeVerdict_of_meaningful hmeant] at hrx
  exact ⟨_, hrx, exec_decodeOpcode u[15] bc bs { s with cbw := u, outstanding := none }⟩

/-- Settles O15: the content check fails, and the rejection is answered by the `Fail` plan. -/
theorem meaninglessEnvelopeIsAnsweredFailed : Obligations.MeaninglessEnvelopeIsAnsweredFailed := by
  unfold Obligations.MeaninglessEnvelopeIsAnsweredFailed
  intro s data bc bs u hphase hu hsig hbad
  have hmeant : meaningful (fields u) = false := by
    rw [Bool.eq_false_iff]
    intro hm
    obtain ⟨hlun, hlow, hhigh⟩ := (meaningful_iff _).mp hm
    simp only [fields] at hlun hlow hhigh
    rcases hbad with h | h | h
    · exact h hlun
    · simp [h] at hlow
    · omega
  rw [exec_rxComplete_envelope bc bs hphase hu hsig, envelopeVerdict_of_not_meaningful hmeant, serve_rejected]
  rfl

/-- Settles O16. -/
theorem receiveOutsideIdleIsIgnored : Obligations.ReceiveOutsideIdleIsIgnored := by
  unfold Obligations.ReceiveOutsideIdleIsIgnored
  intro s n data bc bs hphase
  exact execRxComplete_other hphase n data bc bs

/-- Settles O17: an ignored completion changes nothing, a malformed envelope no buffer but `cbw` and no latch, and
what answering a valid one changes is `serve_fcBuf`, `serve_csw` and `serve_latches`. -/
theorem receiveFrame : Obligations.ReceiveFrame := by
  unfold Obligations.ReceiveFrame
  intro s t n data bc bs h
  cases effect_of_exec h with
  | rxIgnored hphase =>
    exact ⟨rfl, rfl, rfl, rfl, .inl rfl, .inl rfl, .inl ⟨rfl, rfl⟩, fun _ => rfl⟩
  | malformed hphase =>
    exact ⟨rfl, rfl, rfl, rfl, .inl rfl, .inl rfl, .inl ⟨rfl, rfl⟩, fun hne => absurd hphase hne⟩
  | answered hphase hf =>
    obtain ⟨hcbw, hinbox, hstarted, hctr⟩ := serve_frame (s.retire.receive n data) bc bs
      (envelopeVerdict (fields (receiveInto s.cbw n data)))
    refine ⟨hinbox, hstarted, hctr, serve_abandoned .., ?_, ?_, ?_, fun hne => absurd hphase hne⟩
    · rcases serve_fcBuf (s.retire.receive n data) bc bs _ with hkept | ⟨⟨plen, hv⟩, hbuilt⟩
      · exact .inl hkept
      · refine .inr ⟨hphase, ?_, hbuilt⟩
        simp only [hcbw]
        exact opcode_of_envelopeVerdict_fcBuf hv
    · rw [hcbw]
      exact (serve_csw _ _ _ _).imp_right fun hfailed => ⟨hphase, hfailed⟩
    · exact (serve_latches _ _ _ _).imp_right fun hlatched => ⟨hphase, hlatched⟩

/-! ### The order of causes -/

/-- What the decoder reports of a malformed envelope: the length first, then the signature (R171, R172; D10). -/
theorem decodeCBW_error {n : Word32} {buf : Buf 31} {c : Cause} (h : decodeCBW n buf = .error c) :
    n.toNat ≠ 31 ∧ c = .fLength n ∨
      n.toNat = 31 ∧ signature buf ≠ Config.magicA ∧ c = .fSignature (signature buf) := by
  by_cases hn : n.toNat = 31
  · by_cases hsig : signature buf = Config.magicA
    · obtain rfl : n = 31#32 := BitVec.eq_of_toNat_eq hn
      rw [decodeCBW_valid buf hsig] at h
      cases h
    · obtain rfl : n = 31#32 := BitVec.eq_of_toNat_eq hn
      rw [decodeCBW_of_signature_ne hsig] at h
      exact .inr ⟨rfl, hsig, (Except.error.inj h).symm⟩
  · rw [decodeCBW_of_length_ne buf hn] at h
    exact .inl ⟨hn, (Except.error.inj h).symm⟩

/-- What a valid envelope is rejected for: the LUN first, then the command block length, then the opcode (R174, R193;
D10). -/
theorem rejection_envelopeVerdict (u : Buf 31) :
    rejection (envelopeVerdict (fields u)) =
      if u[13] ≠ 0x00#8 then some (.cLun u[13])
      else if u[14].toNat < 1 ∨ 16 < u[14].toNat then some (.cCbl u[14])
      else if u[15] ≠ Config.opcInquiry ∧ u[15] ≠ Config.opcRfc then some (.cOpcode u[15])
      else none := by
  have hmeant : meaningful (fields u) = true ↔ u[13] = 0x00#8 ∧ 1 ≤ u[14].toNat ∧ u[14].toNat ≤ 16 :=
    meaningful_iff (fields u)
  by_cases hm : meaningful (fields u) = true
  · obtain ⟨hlun, hlow, hhigh⟩ := hmeant.mp hm
    rw [envelopeVerdict_of_meaningful hm, if_neg (not_not_intro hlun), if_neg (by omega)]
    by_cases hopc : u[15] ≠ Config.opcInquiry ∧ u[15] ≠ Config.opcRfc
    · rw [if_pos hopc]
      exact congrArg rejection (opcodeVerdict_of_ne hopc.1 hopc.2)
    · rw [if_neg hopc, show (fields u).opcode = u[15] from rfl, opcodeVerdict]
      split
      · rfl
      split
      · rfl
      · exact absurd ⟨‹_›, ‹_›⟩ hopc
  · rw [envelopeVerdict_of_not_meaningful (by simpa using hm)]
    by_cases hlun : u[13] ≠ 0x00#8
    · rw [if_pos hlun]
      exact congrArg some (if_pos hlun)
    · have hcbl : u[14].toNat < 1 ∨ 16 < u[14].toNat := by
        by_contra hin
        exact hm (hmeant.mpr ⟨not_not.mp hlun, by omega, by omega⟩)
      rw [if_neg hlun, if_pos hcbl]
      exact congrArg some (if_neg hlun)

/-- Settles O18. -/
theorem firstCauseIsReported : Obligations.FirstCauseIsReported := by
  unfold Obligations.FirstCauseIsReported
  intro s n data bc bs u hphase hcause hu
  obtain ⟨t, ht, heff⟩ := exec_effect (.rxComplete n data bc bs) s
  refine ⟨t, ht, ?_⟩
  cases heff with
  | rxIgnored hne => exact absurd hphase hne
  | malformed _ hc =>
    rw [← hu] at hc
    rcases decodeCBW_error hc with ⟨hn, rfl⟩ | ⟨hn, hsig, rfl⟩
    · rw [if_pos hn]
      rfl
    · rw [if_neg (not_not_intro hn), if_pos hsig]
      rfl
  | answered _ hf =>
    rw [← hu] at hf ⊢
    obtain ⟨hn, hsig, -⟩ := decodeCBW_ok hf
    have hnone : (s.retire.receive n data).cause = none := hcause
    rw [if_neg (not_not_intro hn), if_neg (not_not_intro hsig), serve_cause, hnone, Option.or_none,
      rejection_envelopeVerdict]

/-! ### What is read -/

/-- A 32-bit field and its bytes depend on the four bytes at their offset alone (R62). -/
theorem read_congr {n off : Nat} {u v : Buf n} (h : off + 3 < n)
    (hagree : ∀ (k : Nat) (hk : k < n), off ≤ k → k < off + 4 → u[k] = v[k]) :
    readLE32 u off h = readLE32 v off h ∧ read4 u off h = read4 v off h := by
  have h0 := hagree off (by omega) (by omega) (by omega)
  have h1 := hagree (off + 1) (by omega) (by omega) (by omega)
  have h2 := hagree (off + 2) (by omega) (by omega) (by omega)
  have h3 := hagree (off + 3) (by omega) (by omega) (by omega)
  simp only [readLE32, read4, h0, h1, h2, h3, and_self]

/-- The decoder reads bytes 0 to 15, and of the flags byte the direction bit alone (R92, R95). -/
theorem decoded_congr {u v : Buf 31} (hagree : ∀ (k : Nat) (h : k < 31), k < 16 → k ≠ 12 → u[k] = v[k])
    (hdir : u[12].getLsbD 7 = v[12].getLsbD 7) : signature u = signature v ∧ fields u = fields v := by
  obtain ⟨hsig, -⟩ := read_congr (off := 0) (u := u) (v := v) (by decide)
    fun k hk _ _ => hagree k hk (by omega) (by omega)
  obtain ⟨htag, htagB⟩ := read_congr (off := 4) (u := u) (v := v) (by decide)
    fun k hk _ _ => hagree k hk (by omega) (by omega)
  obtain ⟨hdtl, -⟩ := read_congr (off := 8) (u := u) (v := v) (by decide)
    fun k hk _ _ => hagree k hk (by omega) (by omega)
  have hlun := hagree 13 (by decide) (by decide) (by decide)
  have hcbl := hagree 14 (by decide) (by decide) (by decide)
  have hopc := hagree 15 (by decide) (by decide) (by decide)
  exact ⟨hsig, by simp only [fields, htag, htagB, hdtl, dirIn, hdir, hlun, hcbl, hopc]⟩

/-- Answering a command reads `cbw` for its fields alone. -/
theorem serve_setCbw (s : State) (bc bs : Word32) (w : Verdict) {v : Buf 31} (h : fields v = fields s.cbw) :
    serve { s with cbw := v } bc bs w = { serve s bc bs w with cbw := v } := by
  have hdir' (b : Bool) (hdir : (fields s.cbw).dirIn = b) : (fields v).dirIn = b := by rw [h, hdir]
  rcases plan_cases (fields s.cbw) w with ⟨c, rfl⟩ | ⟨src, plen, rfl, hdir⟩ | ⟨src, plen, rfl, hdir⟩
  · rw [serve_rejected, serve_rejected, h]
  · rw [serve_accepted_in s bc bs src plen hdir, serve_accepted_in { s with cbw := v } bc bs src plen (hdir' _ hdir), h]
    cases src <;> rfl
  · rw [serve_accepted_out s bc bs src plen hdir, serve_accepted_out { s with cbw := v } bc bs src plen (hdir' _ hdir)]
    cases src <;> rfl

/-- Settles O19: the two envelopes have one signature and one record of fields. -/
theorem unreadEnvelopeBitsDoNotMatter : Obligations.UnreadEnvelopeBitsDoNotMatter := by
  unfold Obligations.UnreadEnvelopeBitsDoNotMatter
  intro s bc bs u v hphase hagree hdir
  obtain ⟨hsig, hfields⟩ := decoded_congr hagree hdir
  by_cases hvalid : signature u = Config.magicA
  · refine ⟨_, exec_rxComplete_envelope bc bs hphase rfl hvalid, ?_⟩
    rw [exec_rxComplete_envelope bc bs hphase rfl (hsig ▸ hvalid), ← hfields]
    exact congrArg Host.Outcome.next (serve_setCbw { s with cbw := u, outstanding := none } bc bs _ hfields.symm)
  · refine ⟨_, exec_rxComplete_bad_signature bc bs hphase rfl hvalid, ?_⟩
    rw [exec_rxComplete_bad_signature bc bs hphase rfl (hsig ▸ hvalid), ← hsig]
    rfl

/-- Only the format-capacities payload holds the storage values (R39, R192). -/
theorem serve_storage_values {v : Verdict} (h : ∀ plen, v ≠ .accepted .fcBuf plen) (s : State)
    (bc bs bc' bs' : Word32) : serve s bc bs v = serve s bc' bs' v := by
  cases v with
  | rejected c => rfl
  | accepted src plen =>
    have hsrc : src ≠ .fcBuf := fun hfc => h plen (hfc ▸ rfl)
    simp only [serve, buildPayload, if_neg hsrc]

/-- Settles O20: an opcode other than `OPC_RFC` gets no verdict on `fcBuf`. -/
theorem storageValuesAreReadByOneCommand : Obligations.StorageValuesAreReadByOneCommand := by
  unfold Obligations.StorageValuesAreReadByOneCommand
  intro s bc bs bc' bs' u hphase hopc
  by_cases hsig : signature u = Config.magicA
  · have hother : ∀ plen, envelopeVerdict (fields u) ≠ .accepted .fcBuf plen :=
      fun _ hv => hopc (opcode_of_envelopeVerdict_fcBuf hv)
    rw [exec_rxComplete_envelope bc bs hphase rfl hsig, exec_rxComplete_envelope bc' bs' hphase rfl hsig,
      serve_storage_values hother _ bc bs bc' bs']
  · rw [exec_rxComplete_bad_signature bc bs hphase rfl hsig, exec_rxComplete_bad_signature bc' bs' hphase rfl hsig]

end Sys2Proof.Proofs
end

section
/-! PROOFS. The other events as whole next states (40_protocol_state_machine.md sections 3 and 5,
43_control_requests.md, 70_reset_and_hazards.md section 1): O29, O31 to O35, O37, O38. -/

namespace Sys2Proof.Proofs

open Sys2Proof.Machine

/-- Settles O29. -/
theorem dataCompletionFrame : Obligations.DataCompletionFrame := by
  unfold Obligations.DataCompletionFrame
  intro s hphase
  rw [exec_txComplete_of_dataIn hphase, sendStatus_eq]
  rfl

/-- Settles O31. -/
theorem otherTransmitCompletionsAreIgnored : Obligations.OtherTransmitCompletionsAreIgnored := by
  unfold Obligations.OtherTransmitCompletionsAreIgnored
  intro s hphase
  exact exec_txComplete_of_other hphase

/-- Settles O32. -/
theorem transportFaultEntersError : Obligations.TransportFaultEntersError := by
  unfold Obligations.TransportFaultEntersError
  intro s
  exact congrArg Host.Outcome.next (raiseTransportFault_eq s)

/-- Settles O33: the two resets return to `Idle`; of the other four events two are ignored in `Error`, one replies and
one enters `Error` again. -/
theorem returnFromErrorGoesIdle : Obligations.ReturnFromErrorGoesIdle := by
  unfold Obligations.ReturnFromErrorGoesIdle
  intro s i hphase hevent
  cases i with
  | powerOnReset => exact ⟨_, rfl, by simp [returnToIdle_eq], fun _ => ⟨rfl, rfl, rfl⟩⟩
  | classReset => exact ⟨_, rfl, by simp [returnToIdle_eq], fun _ => ⟨rfl, rfl, rfl⟩⟩
  | rxComplete n data bc bs =>
    exact ⟨s, execRxComplete_other (by simp [hphase]) n data bc bs, by simp [hphase], by simp⟩
  | txComplete => exact ⟨_, exec_txComplete_of_other (.inr (.inr hphase)), by simp [hphase], by simp⟩
  | transportFault => exact ⟨s.raiseTransportFault, rfl, by simp [raiseTransportFault_eq], by simp⟩
  | getMaxLun => exact ⟨_, exec_getMaxLun s, by simp [hphase], by simp⟩
  | inquiry | readFormatCapacities | unsupported => cases hevent

/-- Settles O34. -/
theorem classResetGoesIdle : Obligations.ClassResetGoesIdle := by
  unfold Obligations.ClassResetGoesIdle
  intro s
  exact congrArg Host.Outcome.next (returnToIdle_eq s)

/-- Settles O35: the receive that the first reset armed is nothing the second one lists as abandoned. -/
theorem classResetTwiceIsOnce : Obligations.ClassResetTwiceIsOnce := by
  unfold Obligations.ClassResetTwiceIsOnce
  intro s t h
  cases effect_of_exec h
  have hlist : s.returnToIdle.abandon.abandoned = s.returnToIdle.abandoned :=
    abandon_abandoned_of_not_transmit fun _ _ hout => by simp [returnToIdle_eq] at hout
  have htwice : s.returnToIdle.returnToIdle =
      { s.returnToIdle with out := s.returnToIdle.out ++ [.startReceive .cbw 31] } := by
    rw [returnToIdle_eq s.returnToIdle, hlist]
    rfl
  exact congrArg Host.Outcome.next htwice

/-- Settles O37. -/
theorem getMaxLunChangesNothingElse : Obligations.GetMaxLunChangesNothingElse := by
  unfold Obligations.GetMaxLunChangesNothingElse
  intro s t h
  cases effect_of_exec h
  rfl

/-- Settles O38: the contents are lost before the return to `Idle`, which keeps them. -/
theorem powerOnLeavesContentsUnspecified : Obligations.PowerOnLeavesContentsUnspecified := by
  unfold Obligations.PowerOnLeavesContentsUnspecified
  intro s
  exact congrArg Host.Outcome.next (returnToIdle_eq s.loseContents)

end Sys2Proof.Proofs
end

section
/-! PROOFS. The step (10_state.md R30, 40_protocol_state_machine.md R130; log entries 5, 7, 8 and 13): O39 to O42. -/

namespace Sys2Proof.Proofs

open Sys2Proof.Machine

/-- Settles O39: the power-on's frame is taken, and every field but the unspecified ones is that of `State.reset`. -/
theorem resetIsThePowerOnResult : Obligations.ResetIsThePowerOnResult := by
  unfold Obligations.ResetIsThePowerOnResult
  intro frames
  have hstep := step_of_frame (s := State.beforePowerOn ([0x01#8] :: frames)) rfl
    (show decodeFrame [0x01#8] = .ok .powerOnReset from rfl) (admits_powerOnReset _)
  exact ⟨_, hstep, rfl, rfl, rfl, rfl⟩

/-- Settles O40: either premise admits the event. -/
theorem stepRunsTheDecodedEvent : Obligations.StepRunsTheDecodedEvent := by
  unfold Obligations.StepRunsTheDecodedEvent
  intro s frame rest i hin hd hadmitted
  have hadmits : s.admits i = true := by
    rcases hadmitted with hstarted | rfl
    · exact admits_of_started hstarted i
    · exact admits_powerOnReset s
  exact step_of_frame hin hd hadmits

/-- Settles O41. -/
theorem stepWithoutEventsWaits : Obligations.StepWithoutEventsWaits := by
  unfold Obligations.StepWithoutEventsWaits
  intro s hin
  simp [step, fetch, hin, State.begin]

/-- Settles O42. -/
theorem firstEventMustBePowerOn : Obligations.FirstEventMustBePowerOn := by
  unfold Obligations.FirstEventMustBePowerOn
  intro s frame rest i hstarted hin hd hne
  have hadmits : s.admits i = false := by simp [State.admits, hstarted, hne]
  simp [step, fetch, hin, hd, hadmits]

end Sys2Proof.Proofs
end

section
/-! PROOFS. Phases and latches over every instruction (40_protocol_state_machine.md R131, R139; D16 to D19): O44, O47,
O48 and O49. -/

namespace Sys2Proof.Proofs

open Sys2Proof.Machine Sys2Proof.Safety

/-- An accepted command is in its data phase (R194). -/
theorem serve_accepted_phase (s : State) (bc bs : Word32) (src : Space) (plen : Nat) :
    (serve s bc bs (.accepted src plen)).phase = .dataIn ∨ (serve s bc bs (.accepted src plen)).phase = .dataOut := by
  cases hdir : (fields s.cbw).dirIn with
  | true => exact .inl (by rw [serve_accepted_in s bc bs src plen hdir])
  | false => exact .inr (by rw [serve_accepted_out s bc bs src plen hdir])

/-- The phases that the answer to a command can leave are among those of the `RX_COMPLETE` cell of `Idle` (R131). -/
theorem serve_phase (s : State) (bc bs : Word32) (v : Verdict) :
    (serve s bc bs v).phase ∈ [.error, .dataIn, .dataOut, .sendingStatus] := by
  cases v with
  | rejected c => simp [serve_rejected]
  | accepted src plen => rcases serve_accepted_phase s bc bs src plen with h | h <;> simp [h]

/-- Outside `Idle` the `RX_COMPLETE` cell is to stay (R131, R133). -/
theorem nextPhases_rxComplete_of_ne {p : Phase} (h : p ≠ .idle) (n : Word32) (data : List Byte) (bc bs : Word32) :
    nextPhases (.rxComplete n data bc bs) p = [p] := by
  cases p with
  | idle => exact absurd rfl h
  | dataIn | dataOut | sendingStatus | error => rfl

/-- A cell of the transition table allows the phase its event leaves (R131). -/
theorem nextPhases_of_effect {i : Instr} {s t : State} (heff : Effect s i t) : t.phase ∈ nextPhases i s.phase := by
  cases heff with
  | poweredOn | classReset | replied | faulted | unsupported => exact List.mem_singleton_self _
  | rxIgnored hphase => simp [nextPhases_rxComplete_of_ne hphase]
  | malformed hphase => simp [nextPhases, hphase, raiseFraming_eq]
  | answered hphase =>
    rw [hphase]
    exact serve_phase ..
  | dataSent hphase => simp [nextPhases, hphase, sendStatus_eq]
  | statusSent hphase => simp [nextPhases, hphase]
  | txIgnored hphase => rcases hphase with h | h | h <;> simp [nextPhases, h]
  | inquiry => simpa [nextPhases] using serve_accepted_phase s 0#32 0#32 _ _
  | formatCapacities => simpa [nextPhases] using serve_accepted_phase s _ _ _ _

/-- Settles O44. -/
theorem transitionTableHolds : Obligations.TransitionTableHolds := by
  unfold Obligations.TransitionTableHolds
  intro i s t h
  exact nextPhases_of_effect (effect_of_exec h)

/-- Answering a command latches no status but passed and failed (R197, R198; D19). -/
theorem serve_stsLatch (s : State) (bc bs : Word32) (v : Verdict) :
    (serve s bc bs v).stsLatch = s.stsLatch ∨ (serve s bc bs v).stsLatch = 0x00#8 ∨
      (serve s bc bs v).stsLatch = 0x01#8 := by
  rcases plan_cases (fields s.cbw) v with ⟨c, rfl⟩ | ⟨src, plen, rfl, hdir⟩ | ⟨src, plen, rfl, hdir⟩
  · exact .inr (.inr rfl)
  · rw [serve_accepted_in s bc bs src plen hdir]
    exact .inr (.inl rfl)
  · rw [serve_accepted_out s bc bs src plen hdir]
    exact .inl rfl

/-- Settles O47: only answering a command writes the latch. -/
theorem statusLatchIsWrittenZeroOrOne : Obligations.StatusLatchIsWrittenZeroOrOne := by
  unfold Obligations.StatusLatchIsWrittenZeroOrOne
  intro i s t hne h
  cases effect_of_exec h with
  | poweredOn => exact absurd rfl hne
  | answered | inquiry | formatCapacities | unsupported => exact serve_stsLatch _ _ _ _
  | dataSent =>
    rw [sendStatus_eq]
    exact .inl rfl
  | classReset | replied | faulted | rxIgnored | malformed | statusSent | txIgnored => exact .inl rfl

/-- From `Error` a step goes nowhere but to `Idle`, on one of the two resets (R246, R247). -/
theorem step_phase_of_error {s t : State} (hphase : s.phase = .error) (h : step s = .next t) :
    t.phase = .error ∨ t.phase = .idle ∧ ∃ rest, s.inbox = [0x05#8] :: rest ∨ s.inbox = [0x01#8] :: rest := by
  rcases step_effect h with ⟨-, rfl⟩ | ⟨rest, i, hin, hevent, heff⟩
  · exact .inl hphase
  have hnext : t.phase ∈ nextPhases i .error := by
    simpa only [State.setInbox_phase, State.begin_phase, hphase] using nextPhases_of_effect heff
  cases i with
  | powerOnReset => exact .inr ⟨List.mem_singleton.mp hnext, rest, .inr hin⟩
  | classReset => exact .inr ⟨List.mem_singleton.mp hnext, rest, .inl hin⟩
  | rxComplete | txComplete | transportFault | getMaxLun => exact .inl (List.mem_singleton.mp hnext)
  | inquiry | readFormatCapacities | unsupported => cases hevent

/-- Settles O48: a transmit goes with `DataIn` or `SendingStatus`, and a step from `Error` ends in neither. -/
theorem errorSendsNothingUntilReset : Obligations.ErrorSendsNothingUntilReset := by
  unfold Obligations.ErrorSendsNothingUntilReset
  intro s t hphase h
  have hnext := step_phase_of_error hphase h
  refine ⟨fun src len hsent => ?_, hnext⟩
  obtain ⟨-, -, -, hsending⟩ := inContract_of_step h hsent
  rcases hnext with herror | ⟨hidle, -⟩
  · simp [herror] at hsending
  · simp [hidle] at hsending

/-- A request that leaves the core in `DataOut` is a control reply (R221; D16). -/
theorem ctrlReply_of_dataOut {t : State} {r : Request} (hphase : t.phase = .dataOut) (h : InContract t r) :
    r = .ctrlReply [0x00#8] := by
  cases r with
  | startReceive => simp [InContract, hphase] at h
  | startTransmit => simp [InContract, hphase] at h
  | stall => simp [InContract, hphase] at h
  | ctrlReply => exact congrArg Request.ctrlReply h

/-- Settles O49: in `DataOut` both completions are ignored, and a control reply touches the outputs alone. -/
theorem dataOutHoldsUntilResetOrFault : Obligations.DataOutHoldsUntilResetOrFault := by
  unfold Obligations.DataOutHoldsUntilResetOrFault
  intro s t hphase h
  have hreply : t.phase = .dataOut → ∀ r ∈ t.out, r = .ctrlReply [0x00#8] :=
    fun hheld r hr => ctrlReply_of_dataOut hheld (inContract_of_step h hr)
  rcases step_effect h with ⟨-, rfl⟩ | ⟨rest, i, hin, hevent, heff⟩
  · exact .inl ⟨hphase, hreply hphase, rfl, rfl, rfl, rfl, rfl, rfl⟩
  cases heff with
  | poweredOn => exact .inr (.inr ⟨⟨rest, .inr hin⟩, rfl⟩)
  | classReset => exact .inr (.inr ⟨⟨rest, .inl hin⟩, rfl⟩)
  | faulted => exact .inr (.inl ⟨⟨rest, hin⟩, rfl⟩)
  | replied | rxIgnored | txIgnored => exact .inl ⟨hphase, hreply hphase, rfl, rfl, rfl, rfl, rfl, rfl⟩
  | malformed hidle | answered hidle => cases hphase.symm.trans hidle
  | dataSent hother | statusSent hother => cases hphase.symm.trans hother
  | inquiry | formatCapacities | unsupported => cases hevent

end Sys2Proof.Proofs
end

section
/-! PROOFS. The list of abandoned transmits and the race mark (10_state.md R43, 70_reset_and_hazards.md R276; log entry
10): O50 and O59. -/

namespace Sys2Proof.Proofs

open Sys2Proof.Machine

/-- A rejected command writes `csw` (R198, R276). -/
theorem serve_race_rejected (s : State) (bc bs : Word32) (c : Cause) :
    (serve s bc bs (.rejected c)).race = (s.race || s.abandoned.contains .csw) := rfl

/-- An accepted command writes the payload it builds in `fcBuf` (R192, R276). -/
theorem serve_race_fcBuf (s : State) (bc bs : Word32) (plen : Nat) :
    (serve s bc bs (.accepted .fcBuf plen)).race = (s.race || s.abandoned.contains .fcBuf) :=
  answer_race ..

/-- It writes nothing where its payload is another space (R191). -/
theorem serve_race_of_ne (s : State) (bc bs : Word32) {src : Space} (plen : Nat) (h : src ≠ .fcBuf) :
    (serve s bc bs (.accepted src plen)).race = s.race := by
  rw [serve, answer_race, buildPayload, if_neg h]

/-- The race mark after a write to a source (R276). -/
theorem mark_eq_true_iff {marked : Bool} {listed : List Space} {src : Space} :
    (marked || listed.contains src) = true ↔ marked = true ∨ src ∈ listed := by
  simp

/-- A command that is not run, for its content or for its opcode, is rejected (R174, R193). -/
theorem envelopeVerdict_rejected {u : Buf 31}
    (h : meaningful (fields u) = false ∨ u[15] ≠ Config.opcInquiry ∧ u[15] ≠ Config.opcRfc) :
    ∃ c, envelopeVerdict (fields u) = .rejected c := by
  by_cases hm : meaningful (fields u) = true
  · obtain ⟨hinq, hrfc⟩ := h.resolve_left (by simp [hm])
    exact ⟨_, (envelopeVerdict_of_meaningful hm).trans (opcodeVerdict_of_ne hinq hrfc)⟩
  · exact ⟨_, envelopeVerdict_of_not_meaningful (by simpa using hm)⟩

/-- What was listed stays listed through a reset (R43). -/
theorem mem_abandoned_abandon {s : State} {src : Space} (h : src ∈ s.abandoned) : src ∈ s.abandon.abandoned := by
  by_cases hout : ∃ src' len, s.outstanding = some (.transmit src' len)
  · obtain ⟨src', len, hout⟩ := hout
    rw [s.abandon_abandoned_transmit hout]
    exact List.mem_append_left _ h
  · rwa [abandon_abandoned_of_not_transmit fun src' len heq => hout ⟨src', len, heq⟩]

/-- A reset lists the source of the transmit it finds outstanding (R43, R276). -/
theorem mem_abandoned_returnToIdle {s : State} {src : Space} {len : Nat}
    (h : s.outstanding = some (.transmit src len)) : src ∈ s.returnToIdle.abandoned := by
  have hlist : s.returnToIdle.abandoned = s.abandoned ++ [src] := s.abandon_abandoned_transmit h
  simp [hlist]

/-- Settles O50: the resets list what is outstanding, and each of the rest is a write by `serve` or `sendStatus`. -/
theorem writeAfterAbandonedTransmitIsARace : Obligations.WriteAfterAbandonedTransmitIsARace := by
  unfold Obligations.WriteAfterAbandonedTransmitIsARace
  intro s
  refine ⟨fun src len hout => ?_, fun hcsw => ⟨fun opc => ?_, fun hphase => ?_, ?_⟩, fun hfc => ⟨fun bc bs => ?_, ?_⟩⟩
  · have hlost : s.loseContents.outstanding = some (.transmit src len) := hout
    exact ⟨⟨_, rfl, mem_abandoned_returnToIdle hout⟩, ⟨_, rfl, mem_abandoned_returnToIdle hlost⟩⟩
  · exact ⟨_, rfl, mark_eq_true_iff.mpr (.inr hcsw)⟩
  · exact ⟨_, exec_txComplete_of_dataIn hphase, mark_eq_true_iff.mpr (.inr hcsw)⟩
  · intro u bc bs hphase hsig hbad
    obtain ⟨c, hc⟩ := envelopeVerdict_rejected hbad
    refine ⟨_, exec_rxComplete_envelope bc bs hphase rfl hsig, ?_⟩
    rw [hc, serve_race_rejected]
    exact mark_eq_true_iff.mpr (.inr hcsw)
  · refine ⟨serve s bc bs (.accepted .fcBuf Config.fcLen), rfl, ?_⟩
    rw [serve_race_fcBuf]
    exact mark_eq_true_iff.mpr (.inr hfc)
  · intro u bc bs hphase hsig hmeant hopc
    have hv : envelopeVerdict (fields u) = .accepted .fcBuf Config.fcLen := by
      rw [envelopeVerdict_of_meaningful hmeant, show (fields u).opcode = Config.opcRfc from hopc]
      rfl
    refine ⟨_, exec_rxComplete_envelope bc bs hphase rfl hsig, ?_⟩
    rw [hv, serve_race_fcBuf]
    exact mark_eq_true_iff.mpr (.inr hfc)

/-- What a step from `s` to `t` may do to the race mark: it keeps a mark, and sets one only where it has written a
listed source (R276). -/
def MarksOnlyRaces (s t : State) : Prop :=
  (s.race = true → t.race = true) ∧
  (t.race = true →
    s.race = true ∨
    .csw ∈ s.abandoned ∧ t.phase = .sendingStatus ∧ t.csw = encodeCSW (fields t.cbw).tagB t.resLatch t.stsLatch ∨
    .fcBuf ∈ s.abandoned ∧ ∃ bc bs : Word32, t.fcBuf = fcPayload bc bs)

/-- A step that writes no source leaves the mark. -/
theorem marksOnlyRaces_of_eq {s t : State} (h : t.race = s.race) : MarksOnlyRaces s t :=
  ⟨fun hs => h.trans hs, fun ht => .inl (h.symm.trans ht)⟩

/-- A step that builds a CSW marks a race where `csw` is listed. -/
theorem marksOnlyRaces_of_csw {s t : State} (h : t.race = (s.race || s.abandoned.contains .csw))
    (hphase : t.phase = .sendingStatus) (hcsw : t.csw = encodeCSW (fields t.cbw).tagB t.resLatch t.stsLatch) :
    MarksOnlyRaces s t := by
  rw [MarksOnlyRaces, h, mark_eq_true_iff]
  exact ⟨.inl, Or.imp_right fun hlisted => .inl ⟨hlisted, hphase, hcsw⟩⟩

/-- A step that builds a format-capacities payload marks a race where `fcBuf` is listed. -/
theorem marksOnlyRaces_of_fcBuf {s t : State} {bc bs : Word32} (h : t.race = (s.race || s.abandoned.contains .fcBuf))
    (hbuf : t.fcBuf = fcPayload bc bs) : MarksOnlyRaces s t := by
  rw [MarksOnlyRaces, h, mark_eq_true_iff]
  exact ⟨.inl, Or.imp_right fun hlisted => .inr ⟨hlisted, bc, bs, hbuf⟩⟩

/-- Answering a command marks races alone (R192, R198). -/
theorem marksOnlyRaces_serve (s : State) (bc bs : Word32) (v : Verdict) : MarksOnlyRaces s (serve s bc bs v) := by
  cases v with
  | rejected c =>
    rw [serve_rejected]
    exact marksOnlyRaces_of_csw rfl rfl rfl
  | accepted src plen =>
    by_cases hsrc : src = .fcBuf
    · subst hsrc
      exact marksOnlyRaces_of_fcBuf (serve_race_fcBuf s bc bs plen) (answer_fcBuf ..)
    · exact marksOnlyRaces_of_eq (serve_race_of_ne s bc bs plen hsrc)

/-- Every instruction marks races alone. -/
theorem marksOnlyRaces_of_effect {i : Instr} {s t : State} (heff : Effect s i t) : MarksOnlyRaces s t := by
  cases heff with
  | poweredOn | classReset =>
    rw [returnToIdle_eq]
    exact marksOnlyRaces_of_eq rfl
  | replied | faulted | rxIgnored | malformed | statusSent | txIgnored => exact marksOnlyRaces_of_eq rfl
  | answered => exact marksOnlyRaces_serve (s.retire.receive _ _) _ _ _
  | dataSent =>
    rw [sendStatus_eq]
    exact marksOnlyRaces_of_csw rfl rfl rfl
  | inquiry | formatCapacities | unsupported => exact marksOnlyRaces_serve ..

/-- A listed source stays listed until a completion that the core ignores (R43, R136). -/
theorem mem_abandoned_of_effect {i : Instr} {s t : State} {src : Space} (heff : Effect s i t)
    (hlate : i ≠ .txComplete ∨ s.phase = .dataIn ∨ s.phase = .sendingStatus) (h : src ∈ s.abandoned) :
    src ∈ t.abandoned := by
  cases heff with
  | poweredOn => exact mem_abandoned_abandon (s := s.loseContents) h
  | classReset => exact mem_abandoned_abandon h
  | replied | faulted | rxIgnored | malformed | statusSent => exact h
  | dataSent =>
    rw [sendStatus_eq]
    exact h
  | txIgnored hphase =>
    rcases hlate with hne | hbusy | hbusy
    · exact absurd rfl hne
    · simp [hbusy] at hphase
    · simp [hbusy] at hphase
  | answered | inquiry | formatCapacities | unsupported =>
    rw [serve_abandoned]
    exact h

/-- Settles O59. -/
theorem raceMarkMeansAnAbandonedSourceWasWritten : Obligations.RaceMarkMeansAnAbandonedSourceWasWritten := by
  unfold Obligations.RaceMarkMeansAnAbandonedSourceWasWritten
  intro i s t h
  have heff := effect_of_exec h
  obtain ⟨hkept, hset⟩ := marksOnlyRaces_of_effect heff
  exact ⟨hkept, fun hlate src hlisted => mem_abandoned_of_effect heff hlate hlisted, hset⟩

end Sys2Proof.Proofs
end

section
/-! PROOFS. A whole transaction (40_protocol_state_machine.md section 6, property 6): O56 and O57, step by step. -/

namespace Sys2Proof.Proofs

open Sys2Proof.Machine

/-- A pending envelope with the signature, in `Idle`, is answered with its verdict in one step (R130, R132). -/
theorem step_envelope {s : State} {u : Buf 31} {bc bs : Word32} {rest : List Frame} (hstarted : s.started = true)
    (hphase : s.phase = .idle) (hin : s.inbox = encode (.rxComplete 31#32 u.toList bc bs) :: rest)
    (hsig : signature u = Config.magicA) :
    step s = .next (serve { s.begin.setInbox rest with cbw := u, outstanding := none } bc bs
      (envelopeVerdict (fields u))) := by
  rw [step_of_frame hin (decodeFrame_envelope u bc bs) (admits_of_started hstarted _)]
  exact exec_rxComplete_envelope bc bs hphase rfl hsig

/-- A pending transmit completion runs TX_COMPLETE (R130). -/
theorem step_txComplete {s : State} {rest : List Frame} (hstarted : s.started = true)
    (hin : s.inbox = [0x03#8] :: rest) : step s = exec .txComplete (s.begin.setInbox rest) :=
  step_of_frame hin rfl (admits_of_started hstarted _)

/-- An envelope that is rejected is answered with the failed status of its whole length (R132, R198). -/
theorem step_rejected_envelope {s : State} {u : Buf 31} {bc bs : Word32} {rest : List Frame} {c : Cause}
    (hstarted : s.started = true) (hphase : s.phase = .idle)
    (hin : s.inbox = encode (.rxComplete 31#32 u.toList bc bs) :: rest) (hsig : signature u = Config.magicA)
    (hv : envelopeVerdict (fields u) = .rejected c) :
    ∃ a, step s = .next a ∧ a.phase = .sendingStatus ∧ a.out = [.startTransmit .csw 13] ∧
      a.csw = encodeCSW (fields u).tagB (fields u).dtl 0x01#8 ∧ a.started = true ∧ a.inbox = rest := by
  refine ⟨_, step_envelope hstarted hphase hin hsig, ?_⟩
  rw [hv, serve_rejected]
  exact ⟨rfl, rfl, rfl, hstarted, rfl⟩

/-- An envelope that is accepted, device to host, is answered with the data transmit (R132, R195 to R197). -/
theorem step_accepted_envelope {s : State} {u : Buf 31} {bc bs : Word32} {rest : List Frame} {src : Space} {plen : Nat}
    (hstarted : s.started = true) (hphase : s.phase = .idle)
    (hin : s.inbox = encode (.rxComplete 31#32 u.toList bc bs) :: rest) (hsig : signature u = Config.magicA)
    (hdir : (fields u).dirIn = true) (hv : envelopeVerdict (fields u) = .accepted src plen) :
    ∃ a, step s = .next a ∧ a.phase = .dataIn ∧ a.out = [.startTransmit src (txLength (fields u).dtl plen)] ∧
      a.cbw = u ∧ a.resLatch = residueOf (fields u).dtl plen ∧ a.stsLatch = 0x00#8 ∧ a.started = true ∧
      a.inbox = rest := by
  refine ⟨_, step_envelope hstarted hphase hin hsig, ?_⟩
  rw [hv, serve_accepted_in { s.begin.setInbox rest with cbw := u, outstanding := none } bc bs src plen hdir]
  exact ⟨rfl, rfl, rfl, rfl, rfl, hstarted, rfl⟩

/-- The completion of the data transmit is followed by the CSW of the tag and the latches (R134). -/
theorem step_data_completes {s : State} {rest : List Frame} (hstarted : s.started = true)
    (hphase : s.phase = .dataIn) (hin : s.inbox = [0x03#8] :: rest) :
    ∃ b, step s = .next b ∧ b.phase = .sendingStatus ∧ b.out = [.startTransmit .csw 13] ∧
      b.csw = encodeCSW (fields s.cbw).tagB s.resLatch s.stsLatch ∧ b.started = true ∧ b.inbox = rest := by
  have hsent : (s.begin.setInbox rest).phase = .dataIn := hphase
  refine ⟨_, (step_txComplete hstarted hin).trans (exec_txComplete_of_dataIn hsent), ?_⟩
  rw [sendStatus_eq]
  exact ⟨rfl, rfl, rfl, hstarted, rfl⟩

/-- The completion of the CSW's transmit ends the transaction (R135). -/
theorem step_status_completes {s : State} {rest : List Frame} (hstarted : s.started = true)
    (hphase : s.phase = .sendingStatus) (hin : s.inbox = [0x03#8] :: rest) :
    ∃ c, step s = .next c ∧ c.phase = .idle ∧ c.out = [.startReceive .cbw 31] ∧ c.inbox = rest := by
  have hsent : (s.begin.setInbox rest).phase = .sendingStatus := hphase
  exact ⟨_, (step_txComplete hstarted hin).trans (exec_txComplete_of_sendingStatus hsent), rfl, rfl, rfl⟩

/-- A meaningful envelope with one of the two opcodes is accepted, with the whole of a payload source (R191, R192). -/
theorem envelopeVerdict_accepted {u : Buf 31} (hmeant : meaningful (fields u) = true)
    (hopc : u[15] = Config.opcInquiry ∨ u[15] = Config.opcRfc) :
    ∃ src : Space, envelopeVerdict (fields u) = .accepted src src.size := by
  rw [envelopeVerdict_of_meaningful hmeant, show (fields u).opcode = u[15] from rfl]
  rcases hopc with hopc | hopc
  · exact ⟨.inqData, by rw [hopc]; rfl⟩
  · exact ⟨.fcBuf, by rw [hopc]; rfl⟩

/-- Settles O56: the envelope, the data completion and the status completion, one step each. -/
theorem acceptedTransactionRunsToIdle : Obligations.AcceptedTransactionRunsToIdle := by
  unfold Obligations.AcceptedTransactionRunsToIdle
  intro s bc bs u rest hstarted hphase hin hsig hmeant hdir hopc
  obtain ⟨src, hv⟩ := envelopeVerdict_accepted hmeant hopc
  obtain ⟨a, ha, hsending, hsent, hcbw, hres, hsts, hstarted', hin'⟩ :=
    step_accepted_envelope hstarted hphase hin hsig hdir hv
  obtain ⟨b, hb, hstatus, hcsw, hwrapper, hstarted'', hin''⟩ := step_data_completes hstarted' hsending hin'
  obtain ⟨c, hc, hidle, hout, hinbox⟩ := step_status_completes hstarted'' hstatus hin''
  rw [hcbw, hres, hsts] at hwrapper
  refine ⟨a, b, c, src, _, ha, hb, hc, hsending, hsent, txLength_le _ _, hstatus, hcsw, ?_⟩
  rw [hwrapper, cswRoundTrips]
  exact ⟨rfl, rfl, residueOf_add_txLength _ _, hidle, hout, hinbox⟩

/-- Settles O57: the envelope and the status completion, one step each. -/
theorem rejectedTransactionRunsToIdle : Obligations.RejectedTransactionRunsToIdle := by
  unfold Obligations.RejectedTransactionRunsToIdle
  intro s bc bs u rest hstarted hphase hin hsig hbad
  obtain ⟨c, hv⟩ := envelopeVerdict_rejected hbad
  obtain ⟨a, ha, hstatus, hcsw, hwrapper, hstarted', hin'⟩ := step_rejected_envelope hstarted hphase hin hsig hv
  obtain ⟨b, hb, hidle, hout, hinbox⟩ := step_status_completes hstarted' hstatus hin'
  refine ⟨a, b, ha, hb, hstatus, hcsw, ?_, hidle, hout, hinbox⟩
  rw [hwrapper, cswRoundTrips]

end Sys2Proof.Proofs
end
